-- ==== Sys2Proof/Word.lean ====
section
/-! DEFINITION. The words, numbers and sets of the GT41 (00_scope.md, "Conventions"). -/

namespace Sys2Proof

/-- A trunk, segment or control-space word: 32 bits (00_scope.md, "Words and data"). -/
abbrev Word := BitVec 32

/-- An 8-bit field: page, source id, device code, sequence number, kind code. -/
abbrev Byte := BitVec 8

/-- A 24-bit segment address (00_scope.md). -/
abbrev SegAddr := BitVec 24

/-- A trunk tag, 0 to 31, which indexes the transit table (R34, R36). -/
abbrev Tag := Fin 32

/-- A segment number, 0 to 3. -/
abbrev SegId := Fin 4

/-- A leg tag, 0 to 15; adding one wraps modulo 16 (R104). -/
abbrev LegTag := Fin 16

/-- An attention level, 0 to 7; 0 has the highest priority (R140). -/
abbrev LevelId := Fin 8

/-- A set of segments, one flag per segment, bit `s` for segment `s` (R176, R178). -/
abbrev SegSet := BitVec 4

/-- The index of a window record in its bank, 0 to 31 (R1). -/
abbrev WindowId := Fin 32

def allSegs : List SegId := [0, 1, 2, 3]

def allLevels : List LevelId := [0, 1, 2, 3, 4, 5, 6, 7]

/-- Tags, or window indexes, in ascending order. -/
def allTags : List Tag := List.finRange 32

end Sys2Proof
end

