-- ==== Sys2Proof/Syntax.lean ====
section
/-! DEFINITION. The commands of the GT41: one constructor per row of spec/opcode_table.json. -/

namespace Sys2Proof

/-- What the trunk receiver loses in a RECEIVER_LOCK_LOST (R164). -/
inductive ReceiverLoss where
  | signal
  | lock
  | idlePattern
  deriving DecidableEq, Repr

/-- A command. The rows whose frame is taken from the receive buffer carry no operand: the frame at
the head of the buffer holds their operands (R169). -/
inductive Instr where
  /-- PORN_ASSERTED (R180). -/
  | pornAsserted
  /-- PORN_RELEASED (R180). -/
  | pornReleased
  /-- REFCLK_LOST (R180). -/
  | refclkLost
  /-- REFCLK_RESTORED (R180). -/
  | refclkRestored
  /-- RECEIVER_LOCK_ACQUIRED (R164): signal, lock and idle pattern are all present. -/
  | receiverLockAcquired
  /-- RECEIVER_LOCK_LOST (R164). -/
  | receiverLockLost (what : ReceiverLoss)
  /-- LINK_QUALIFIED (R164, R173). -/
  | linkQualified
  /-- TRUNK_LOSS (R172). -/
  | trunkLoss
  /-- FRAME_RECEIVED (R167): the words of one complete trunk frame, check word last. -/
  | frameReceived (words : List Word)
  /-- MALFORMED_FRAME (R170). -/
  | malformedFrame
  /-- READ (R37). -/
  | read
  /-- WRITE (R37). -/
  | write
  /-- FLUSH (R43). -/
  | flush
  /-- CANCEL (R52). -/
  | cancel
  /-- SHADOW_WINDOW_WRITE (R24). -/
  | shadowWindowWrite
  /-- SEGMENT_CONFIG_WRITE (R135). -/
  | segmentConfigWrite
  /-- MASK_SET_WRITE (R143). -/
  | maskSetWrite
  /-- RESEND_INTERVAL_WRITE (R150). -/
  | resendIntervalWrite
  /-- CWRITE (R185). -/
  | cwrite
  /-- COUNTER_READ_AND_CLEAR (R201), and every CREAD (R184). -/
  | counterReadAndClear
  /-- COMMIT (R26 to R28). -/
  | commit
  /-- COPY_ACTIVE (R25). -/
  | copyActive
  /-- SEGMENT_START (R126). -/
  | segmentStart
  /-- SEGMENT_STOP (R130). -/
  | segmentStop
  /-- SEGMENT_SYNCED (R129). -/
  | segmentSynced
  /-- SEGMENT_RESET (R131). -/
  | segmentReset
  /-- MANAGEMENT_RESET (R191). -/
  | managementReset
  /-- UNKNOWN_COMMAND_CODE (R188). -/
  | unknownCommandCode
  /-- RELEASE (R151, R152). -/
  | release
  /-- FRAME_SENT (R171): the last word of the frame at the head of the transmit queue is sent. -/
  | frameSent
  /-- MANAGEMENT_RESET_TAKES_EFFECT (R174, R192). -/
  | managementResetTakesEffect
  /-- SEND_LEG (R103) on a segment. -/
  | sendLeg (seg : SegId)
  /-- FAILOVER_WAIT_SERVED (R86) on a segment. -/
  | failoverWaitServed (seg : SegId)
  /-- LEG_DONE (R108) arrives on a segment, with its leg tag and its data words. -/
  | legDone (seg : SegId) (tag : LegTag) (data : List Word)
  /-- LEG_REFUSED (R109) arrives on a segment, with its leg tag and device code. -/
  | legRefused (seg : SegId) (tag : LegTag) (code : Byte)
  /-- PROBE_REPLY (R127) arrives on a segment, with its tag. -/
  | probeReply (seg : SegId) (tag : LegTag)
  /-- ATTN_REPORT (R155) arrives on a segment, with its source id. -/
  | attnReport (seg : SegId) (source : Byte)
  /-- CORRUPT_FRAME (R107): the words of one upstream frame, as they arrive on a segment. -/
  | corruptFrame (seg : SegId) (words : List Word)
  /-- LEG_TIMER_EXPIRY (R115) of the leg that stands in the segment's sent list under the tag. -/
  | legTimerExpiry (seg : SegId) (tag : LegTag)
  /-- PROBE_TIMEOUT (R128) on a segment. -/
  | probeTimeout (seg : SegId)
  /-- LINE_RESET_EXPIRY (R131) on a segment. -/
  | lineResetExpiry (seg : SegId)
  /-- ATTENTION_DELIVERY (R145). -/
  | attentionDelivery
  /-- RESEND_DEADLINE_EXPIRY (R149) of a level in service. -/
  | resendDeadlineExpiry (level : LevelId)
  /-- DEFERRED_RESEND (R149). -/
  | deferredResend
  deriving DecidableEq, Repr

end Sys2Proof
end

