-- ==== Sys2Proof/Decode.lean ====
section
/-! DEFINITION. The commands that words of spec/opcode_table.json spell. No row of the table gives bits: a
command of the GT41 is a step, and the trunk frames that lead to some of them are decoded by the machine
itself (Machine/Frames.lean, Machine/Operands.lean). -/

namespace Sys2Proof

/-- No row gives bits, so no word spells a command (log 2). -/
def decodeTableWord (_nbits _w : Nat) : Option Instr := none

end Sys2Proof
end

