-- ==== Sys2Proof/Config.lean ====
section
/-! DEFINITION. What the GT41 fixes once: capacities, times, limits and the identification words.
The spec leaves no value free, so there is no opaque constant here. -/

namespace Sys2Proof.Config

/-- Slots of a segment (R102). -/
def slots : Nat := 16

/-- Frames the receive buffer holds (R167). -/
def receiveCapacity : Nat := 8

/-- Places of the transmit queue (R168). -/
def transmitPlaces : Nat := 64

/-- Source ids an attention queue holds (R155). -/
def attentionCapacity : Nat := 4

/-- Qualifying time in µs (R164). -/
def qualifyingTime : Nat := 100

/-- Loss time in µs (R164). -/
def lossTime : Nat := 50

/-- Line reset time in µs (R131). -/
def lineResetTime : Nat := 2000

/-- µs in one ms, the unit of the resend interval (R150). -/
def microsPerMilli : Nat := 1000

/-- The most words a data request or a control span names (R38, R182). -/
def maxCount : Nat := 16

/-- Default send window, leg timeout and fault threshold after power-on reset (R99, R135). -/
def defaultSendWindow : Nat := 2
def defaultLegTimeout : Nat := 1000
def defaultFaultThreshold : Nat := 4

/-- Resend interval after power-on reset, in ms (R150). -/
def defaultInterval : Nat := 20

/-- The value at which a counter saturates (R199). -/
def counterMax : Word := 0xFFFFFFFF#32

/-- Identification words (R194). -/
def vendorCode : Word := 0x00004C44#32
def partCode : Word := 0x00000029#32
def revision : Word := 0x00000001#32
def capacityWord : Word := 0x00204202#32

end Sys2Proof.Config
end

