-- ==== Sys2Proof/Machine/State.lean ====
section
/-! DEFINITION. The state of the GT41, block by block (00_scope.md, "Block overview"), as plain data. -/

namespace Sys2Proof.Machine

/-! ## Window Banks -/

/-- A bank's letter (R19). -/
inductive Bank where
  | a
  | b
  deriving DecidableEq, Repr

/-- The access code of a record; code 3 names no access (R178). -/
inductive Access where
  | readWrite
  | readOnly
  | writeOnly
  | undefined
  deriving DecidableEq, Repr

/-- Write policy (R4). -/
inductive WritePolicy where
  | strict
  | degraded
  deriving DecidableEq, Repr

/-- Read mode (R5). -/
inductive ReadMode where
  | preferred
  | vote
  deriving DecidableEq, Repr

/-- Boundary policy (R6). -/
inductive Boundary where
  | wrap
  | refuse
  deriving DecidableEq, Repr

/-- A window record (R1), each field with the width of R178. It holds any value that fits. -/
structure WindowRecord where
  enabled    : Bool
  access     : Access
  readMode   : ReadMode
  policy     : WritePolicy
  boundary   : Boundary
  retryLimit : BitVec 3
  /-- size exponent k -/
  k          : BitVec 5
  /-- period exponent p -/
  p          : BitVec 6
  base       : Word
  writeSet   : SegSet
  page       : Byte
  /-- read list entries 1 to 4 -/
  readList   : Vector SegId 4
  readLength : BitVec 3
  deriving DecidableEq, Repr

/-- The disabled, all-zero record of R1. -/
def WindowRecord.zero : WindowRecord :=
  { enabled := false, access := .readWrite, readMode := .preferred, policy := .strict,
    boundary := .wrap, retryLimit := 0, k := 0, p := 0, base := 0, writeSet := 0, page := 0,
    readList := Vector.replicate 4 0, readLength := 0 }

/-- The Window Banks (R1, R19 to R21). The shadow state is computed (R22). -/
structure WindowBanks where
  bankA      : Vector WindowRecord 32
  bankB      : Vector WindowRecord 32
  active     : Bank
  generation : BitVec 16
  inflightA  : Nat
  inflightB  : Nat
  deriving DecidableEq, Repr

/-! ## Transit Table -/

/-- The parts of a request (R12, R13). -/
inductive PartNo where
  | one
  | two
  deriving DecidableEq, Repr

/-- One part: its start segment address and length in words (R12, R13). -/
structure Part where
  start  : SegAddr
  length : Nat
  deriving DecidableEq, Repr

/-- A request has one part, or two when it wraps (R13). -/
structure Parts where
  first  : Part
  second : Option Part
  deriving DecidableEq, Repr

/-- Why a leg failed (R44). -/
inductive FailureReason where
  | timeout
  | deviceRefused
  | segmentFaulted
  | segmentStopped
  deriving DecidableEq, Repr

/-- A leg's state (R44). A DONE leg holds read data if it is a READ's and the data is kept; a FAILED
leg holds its reason. -/
inductive LegState where
  | queued
  | sent
  | done (data : Option (List Word))
  | failed (reason : FailureReason)
  | withdrawn
  deriving DecidableEq, Repr

/-- A leg record (R44). It stands on its entry's leg list; queues and sent lists refer to it. -/
structure Leg where
  seg      : SegId
  part     : PartNo
  state    : LegState
  timeouts : Nat
  deriving DecidableEq, Repr

/-- The state of an open READ or WRITE (R35). -/
inductive Phase where
  | pending
  | cancelling
  | abandoned
  deriving DecidableEq, Repr

/-- The fields an entry holds for its kind (R34). -/
inductive Request where
  | write (data : List Word) (skipped : SegSet)
  | preferred (cursor : Fin 4) (waiting : Option SegId)
  | vote (dissent : Bool)
  deriving DecidableEq, Repr

/-- An open READ or WRITE entry (R34). `noneLeft` is the model's own record that a failover of a PREFERRED
READ found no next member: the READ has no segment left (R83, log 10). -/
structure DataEntry where
  phase    : Phase
  bank     : Bank
  window   : WindowId
  parts    : Parts
  request  : Request
  legs     : List Leg
  noneLeft : Bool := false
  deriving DecidableEq, Repr

/-- A transit entry (R34, R35): FREE, an open READ or WRITE, or a FLUSHING entry with its barrier set
and the set's size at acceptance. -/
inductive Entry where
  | free
  | data (d : DataEntry)
  | flushing (barrier : List Tag) (size : Nat)
  deriving DecidableEq, Repr

/-- A leg as a queue or a sent list names it: its entry and its position on the entry's leg list. -/
structure LegRef where
  entry : Tag
  index : Nat
  deriving DecidableEq, Repr

/-! ## Segment Controllers -/

/-- A leg in the sent list with its leg tag and the µs left on its leg timer (R101, R112). -/
structure SentLeg where
  ref   : LegRef
  tag   : LegTag
  timer : Nat
  deriving DecidableEq, Repr

/-- The segment state (R124). RESETTING has the µs left of its line reset (R131). PROBING has the
outstanding probe's tag, the µs left on its timer, and the kept synced flag (R126, R127). -/
inductive SegState where
  | offline
  | resetting (timer : Nat)
  | probing (tag : LegTag) (timer : Nat) (synced : Bool)
  | rejoining
  | active
  | faulted
  deriving DecidableEq, Repr

/-- The last failure reason of a segment (R99, R111). -/
inductive LastFailure where
  | none
  | timeout
  | deviceRefused (code : Byte)
  | segmentFaulted
  | segmentStopped
  deriving DecidableEq, Repr

/-- A frame the part places on a segment link (R106, R177). -/
inductive DownFrame where
  | legWrite (tag : LegTag) (addr : SegAddr) (data : List Word)
  | legRead (tag : LegTag) (addr : SegAddr) (count : Nat)
  | probe (tag : LegTag)
  | attnAck (source : Byte)
  deriving DecidableEq, Repr

/-- One Segment Controller (R99). `line` is the model's record of the frames placed on the link. `risen`: the free
slots have risen and the waiters have not been looked at yet (R86); the model's own mark (log 7), which a step that
sets it clears. -/
structure SegCtl where
  state          : SegState
  queue          : List LegRef
  sent           : List SentLeg
  legTag         : LegTag
  failures       : Nat
  lastFailure    : LastFailure
  sendWindow     : Nat
  legTimeout     : Nat
  faultThreshold : Nat
  attention      : List Byte
  risen          : Bool
  line           : List DownFrame
  deriving DecidableEq, Repr

/-- A Segment Controller after power-on reset (R139, R162). -/
def SegCtl.reset : SegCtl :=
  { state := .offline, queue := [], sent := [], legTag := 0, failures := 0, lastFailure := .none,
    sendWindow := Config.defaultSendWindow, legTimeout := Config.defaultLegTimeout,
    faultThreshold := Config.defaultFaultThreshold, attention := [], risen := false, line := [] }

/-! ## Attention Unit -/

/-- A resend deadline (R149): not running, running with µs left, or expired and waiting for a
transmit-queue place. -/
inductive Deadline where
  | off
  | running (timer : Nat)
  | waiting
  deriving DecidableEq, Repr

/-- An in-service record (R145). -/
structure Service where
  sequence : Byte
  detail   : Word
  deadline : Deadline
  deriving DecidableEq, Repr

/-- One attention level: request latch, mask, in-service record (R141, R143, R145). -/
structure Level where
  latch   : Option Word
  masked  : Bool
  service : Option Service
  deriving DecidableEq, Repr

/-- The Attention Unit (R140 to R150). -/
structure AttentionUnit where
  levels       : Vector Level 8
  nextSequence : Byte
  interval     : Nat
  deriving DecidableEq, Repr

/-! ## Trunk Port -/

/-- The link state (R164). -/
inductive Link where
  | down
  | up
  deriving DecidableEq, Repr

/-- A received trunk frame that has passed its check: header word and payload words (R166, R167). -/
structure RxFrame where
  header  : Word
  payload : List Word
  deriving DecidableEq, Repr

/-- The status codes 0 to 18 of a response (00_scope.md, "Status codes"). -/
inductive Status where
  | ok
  | partly
  | failed
  | cancelled
  | voteFail
  | noWindow
  | access
  | boundary
  | segmentUnavailable
  | busy
  | tagInUse
  | malformed
  | noObject
  | bankBusy
  | bankInvalid
  | refused
  | noSuchTag
  | stale
  | accepted
  deriving DecidableEq, Repr

/-- The contents of a RESPONSE frame (R176); `kind` is the kind code of the frame answered. -/
structure Response where
  kind    : Byte
  tag     : Tag
  status  : Status
  applied : SegSet
  skipped : SegSet
  dissent : Bool
  detail  : Word
  data    : List Word
  deriving DecidableEq, Repr

/-- A frame in the transmit queue (R176). -/
inductive TxFrame where
  | response (r : Response)
  | attention (level : LevelId) (sequence : Byte) (detail : Word)
  deriving DecidableEq, Repr

/-- The Trunk Port (R164 to R168). Times are the µs left. `wire` is the model's record of the frames
whose last word has been sent. -/
structure TrunkPort where
  link       : Link
  qualifying : Option Nat
  loss       : Option Nat
  rx         : List RxFrame
  tx         : List TxFrame
  held       : Nat
  wire       : List TxFrame
  deriving DecidableEq, Repr

/-! ## Control Block and pins -/

/-- The Control Block's state: counters and saturated set (R196, R199), waiting reset (R191). -/
structure ControlBlock where
  counters     : Vector Word 49
  saturated    : Vector Bool 49
  resetWaiting : Bool
  deriving DecidableEq, Repr

/-- The input pins (R164, R180). -/
structure Pins where
  /-- PORN asserted -/
  porn   : Bool
  /-- REFCLK present -/
  refclk : Bool
  signal : Bool
  lock   : Bool
  idle   : Bool
  deriving DecidableEq, Repr

/-- The whole part, and the queue of commands that wait, oldest first. -/
structure State where
  pins    : Pins
  tp      : TrunkPort
  wb      : WindowBanks
  tt      : Vector Entry 32
  sc      : Vector SegCtl 4
  au      : AttentionUnit
  cb      : ControlBlock
  pending : List Instr
  deriving DecidableEq, Repr

/-- No condition of the spec stops the part, so no step faults: the type has no constructor. -/
inductive Fault where
  deriving DecidableEq, Repr

/-- Why a command is refused. No meaning of this model refuses. -/
inductive Refusal where
  /-- Raised by `exec` for a row that has no meaning yet; no row is left in this state. Safe: the
  machine stops where the hardware goes on. -/
  | notModelled (mnemonic : String)
  deriving DecidableEq, Repr

/-- What a step or a command answers. -/
abbrev Result := Host.Outcome State Fault Refusal

/-! ## Power-on reset values -/

/-- R19, R20, R33. -/
def WindowBanks.reset : WindowBanks :=
  { bankA := Vector.replicate 32 .zero, bankB := Vector.replicate 32 .zero, active := .a,
    generation := 0, inflightA := 0, inflightB := 0 }

/-- R162: latch clear, masked, not in service. -/
def Level.reset : Level := { latch := none, masked := true, service := none }

/-- R162. -/
def AttentionUnit.reset : AttentionUnit :=
  { levels := Vector.replicate 8 .reset, nextSequence := 0, interval := Config.defaultInterval }

/-- R164, R167, R168. -/
def TrunkPort.reset : TrunkPort :=
  { link := .down, qualifying := none, loss := none, rx := [], tx := [], held := 0, wire := [] }

/-- R191, R203. -/
def ControlBlock.reset : ControlBlock :=
  { counters := Vector.replicate 49 0, saturated := Vector.replicate 49 false, resetWaiting := false }

/-- DESIGN CHOICE (log 1), unsafe: the spec gives no pin levels; PORN has been released, the clock is
present, and the trunk receiver sees nothing yet. -/
def Pins.reset : Pins :=
  { porn := false, refclk := true, signal := false, lock := false, idle := false }

/-- The part right after power-on reset, with no command waiting (R33, R60, R139, R162, R164, R203). -/
def State.reset : State :=
  { pins := .reset, tp := .reset, wb := .reset, tt := Vector.replicate 32 .free,
    sc := Vector.replicate 4 .reset, au := .reset, cb := .reset, pending := [] }

end Sys2Proof.Machine
end

