-- ==== Sys2Proof/Machine/Frames.lean ====
section
/-! DEFINITION. Frame check, trunk frame layouts and segment frame layouts (R166, R170, R175 to R177). -/

namespace Sys2Proof.Machine

/-! ## The frame check (R166) -/

/-- One bit shifted into the check register: feedback is the register's top bit xor the bit.
PRESUMED (log 6): the usual reading of "shifting in" for a CRC. -/
def crcBit (reg : Word) (bit : Bool) : Word :=
  if reg.msb ^^ bit then (reg <<< 1) ^^^ 0x04C11DB7#32 else reg <<< 1

/-- One word shifted in, most significant bit first (R166). -/
def crcWord (reg w : Word) : Word :=
  (List.range 32).foldl (fun r i => crcBit r (w.getMsbD i)) reg

/-- The check word of the words in order: all ones at the start, complemented at the end (R166). -/
def checkWord (ws : List Word) : Word :=
  ~~~ (ws.foldl crcWord 0xFFFFFFFF#32)

/-- A frame's words with their check word (R166). -/
def withCheck (ws : List Word) : List Word :=
  ws ++ [checkWord ws]

/-- The words before a correct check word; none when the check fails (R166). -/
def checked? (ws : List Word) : Option (List Word) :=
  match ws.getLast? with
  | some c => if checkWord ws.dropLast = c then some ws.dropLast else none
  | none => none

/-! ## Words from numbers and sets -/

def toWord (n : Nat) : Word := BitVec.ofNat 32 n

def flagWord (b : Bool) : Word := if b then 1#32 else 0#32

/-- The set of the segments a test holds for. -/
def segsWhere (f : SegId → Bool) : SegSet :=
  allSegs.foldl (fun acc g => if f g then acc ||| (1#4 <<< g.val) else acc) 0#4

/-- Membership in a set of segments (bit `s` for segment `s`). -/
def hasSeg (set : SegSet) (g : SegId) : Bool := set.getLsbD g.val

/-! ## Trunk frames received (R175) -/

/-- The eight request kinds and their codes (R175). -/
inductive RequestKind where
  | read
  | write
  | flush
  | cancel
  | cread
  | cwrite
  | command
  | release
  deriving DecidableEq, Repr

def RequestKind.code : RequestKind → Byte
  | .read => 0x01
  | .write => 0x02
  | .flush => 0x03
  | .cancel => 0x04
  | .cread => 0x10
  | .cwrite => 0x11
  | .command => 0x12
  | .release => 0x13

/-- The request kind a code names, if any (R175). -/
def RequestKind.ofCode? (code : Byte) : Option RequestKind :=
  [RequestKind.read, .write, .flush, .cancel, .cread, .cwrite, .command, .release].find?
    (fun k => k.code == code)

/-- The payload lengths a kind allows (R170). -/
def RequestKind.lengthAllowed (n : Nat) : RequestKind → Bool
  | .read | .write | .cread | .cwrite => 1 ≤ n && n ≤ 17
  | .flush | .cancel => n == 0
  | .command | .release => n == 2

namespace RxFrame

/-- Header bits 31 to 24 (R175). -/
def kindCode (f : RxFrame) : Byte := f.header.extractLsb' 24 8

/-- Header bits 20 to 16 (R175). -/
def tag (f : RxFrame) : Tag := ⟨(f.header.extractLsb' 16 5).toNat, (f.header.extractLsb' 16 5).isLt⟩

/-- Header bits 12 to 8 (R175). -/
def count (f : RxFrame) : Nat := (f.header.extractLsb' 8 5).toNat

/-- Header bits 4 to 0 (R175). -/
def lengthField (f : RxFrame) : Nat := (f.header.extractLsb' 0 5).toNat

/-- The structural check (R170): the frame's kind when it passes. -/
def structuralKind? (f : RxFrame) : Option RequestKind :=
  match RequestKind.ofCode? f.kindCode with
  | some k => if f.lengthField = f.payload.length && k.lengthAllowed f.payload.length then some k else none
  | none => none

/-- The frame the words of a complete trunk frame hold: none when it has fewer than two words or its
check fails (R166). -/
def ofWords? (ws : List Word) : Option RxFrame :=
  match checked? ws with
  | some (h :: payload) => some { header := h, payload := payload }
  | _ => none

/-- The words of a frame, with its check word. -/
def words (f : RxFrame) : List Word := withCheck (f.header :: f.payload)

/-- The header word of a request (R175). -/
def headerWord (kind : Byte) (tag : Tag) (count length : Nat) : Word :=
  (kind.setWidth 32 <<< 24) ||| (toWord tag.val <<< 16) ||| (toWord (count % 32) <<< 8)
    ||| toWord (length % 32)

/-- The frame of a request with a tag, a count and payload words (R175). -/
def ofRequest (kind : RequestKind) (tag : Tag) (count : Nat) (payload : List Word) : RxFrame :=
  { header := headerWord kind.code tag count payload.length, payload := payload }

end RxFrame

/-! ## Trunk frames sent (R176) -/

/-- Status codes (00_scope.md, "Status codes"). -/
def Status.code : Status → Nat
  | .ok => 0
  | .partly => 1
  | .failed => 2
  | .cancelled => 3
  | .voteFail => 4
  | .noWindow => 5
  | .access => 6
  | .boundary => 7
  | .segmentUnavailable => 8
  | .busy => 9
  | .tagInUse => 10
  | .malformed => 11
  | .noObject => 12
  | .bankBusy => 13
  | .bankInvalid => 14
  | .refused => 15
  | .noSuchTag => 16
  | .stale => 17
  | .accepted => 18

/-- A RESPONSE's first payload word (R176). -/
def Response.firstWord (r : Response) : Word :=
  (r.kind.setWidth 32 <<< 24) ||| (toWord r.status.code <<< 16) ||| (r.applied.setWidth 32 <<< 8)
    ||| (r.skipped.setWidth 32 <<< 4) ||| flagWord r.dissent

/-- The words of a frame the part sends, with its check word (R175, R176). -/
def TxFrame.words : TxFrame → List Word
  | .response r =>
    withCheck (RxFrame.headerWord 0x80 r.tag r.data.length (2 + r.data.length)
      :: r.firstWord :: r.detail :: r.data)
  | .attention l q d =>
    withCheck [RxFrame.headerWord 0x81 0 0 2, (q.setWidth 32 <<< 16) ||| toWord l.val, d]

/-! ## Segment frames (R177) -/

/-- The header word of a segment frame (R177). -/
def segHeader (kind : Nat) (tag : LegTag) (count : Nat) : Word :=
  (toWord kind <<< 28) ||| (toWord tag.val <<< 24) ||| (toWord (count % 32) <<< 16)

/-- The words of a downstream frame (R106, R177). -/
def DownFrame.words : DownFrame → List Word
  | .legWrite t a d => withCheck (segHeader 1 t d.length :: a.setWidth 32 :: d)
  | .legRead t a n => withCheck [segHeader 2 t n, a.setWidth 32]
  | .probe t => withCheck [segHeader 3 t 0, 0]
  | .attnAck src => withCheck [segHeader 4 0 0, src.setWidth 32]

/-- An intact upstream frame (R107, R177). -/
inductive UpFrame where
  | legDone (tag : LegTag) (data : List Word)
  | legRefused (tag : LegTag) (code : Byte)
  | probeReply (tag : LegTag)
  | attnReport (source : Byte)
  deriving DecidableEq, Repr

/-- The words of an upstream frame as a device sends it (R177). -/
def UpFrame.words : UpFrame → List Word
  | .legDone t d => withCheck (segHeader 8 t d.length :: 0 :: d)
  | .legRefused t c => withCheck [segHeader 9 t 0, c.setWidth 32]
  | .probeReply t => withCheck [segHeader 10 t 0, 0]
  | .attnReport src => withCheck [segHeader 11 0 0, src.setWidth 32]

/-- The leg tag field, header bits 27 to 24 (R177). -/
def segHeaderTag (h : Word) : LegTag := ⟨(h.extractLsb' 24 4).toNat, (h.extractLsb' 24 4).isLt⟩

/-- The upstream frame the words of a segment frame hold; none when the frame is corrupt: too short,
check failed, kind not upstream, or header count not the number of data words (R107, R177). -/
def UpFrame.ofWords? (ws : List Word) : Option UpFrame :=
  match checked? ws with
  | some (h :: a :: data) =>
    if (h.extractLsb' 16 5).toNat = data.length then
      match (h.extractLsb' 28 4).toNat with
      | 8 => some (.legDone (segHeaderTag h) data)
      | 9 => some (.legRefused (segHeaderTag h) (a.setWidth 8))
      | 10 => some (.probeReply (segHeaderTag h))
      | 11 => some (.attnReport (a.setWidth 8))
      | _ => none
    else none
  | _ => none

end Sys2Proof.Machine
end

