-- ==== Sys2Proof/Machine/Operands.lean ====
section
/-! DEFINITION. The operands a taken trunk frame carries, and the table row that takes it (R169, R175, R188). -/

namespace Sys2Proof.Machine

/-- The seven commands (R175). -/
inductive CommandCode where
  | commit
  | copyActive
  | segmentStart
  | segmentStop
  | segmentSynced
  | segmentReset
  | managementReset
  deriving DecidableEq, Repr

def CommandCode.code : CommandCode → Word
  | .commit => 0x01
  | .copyActive => 0x02
  | .segmentStart => 0x10
  | .segmentStop => 0x11
  | .segmentSynced => 0x12
  | .segmentReset => 0x13
  | .managementReset => 0x20

/-- The command a code word names, if any (R188). -/
def CommandCode.ofWord? (w : Word) : Option CommandCode :=
  [CommandCode.commit, .copyActive, .segmentStart, .segmentStop, .segmentSynced, .segmentReset,
    .managementReset].find? (fun c => c.code == w)

/-- The rows of the table that take a frame from the receive buffer (R169). -/
inductive TakenRow where
  | malformedFrame
  | read
  | write
  | flush
  | cancel
  | shadowWindowWrite
  | segmentConfigWrite
  | maskSetWrite
  | resendIntervalWrite
  | cwrite
  | counterReadAndClear
  | commit
  | copyActive
  | segmentStart
  | segmentStop
  | segmentSynced
  | segmentReset
  | managementReset
  | unknownCommandCode
  | release
  deriving DecidableEq, Repr

namespace RxFrame

/-- Payload word 1, or 0 where the frame has none. -/
def word1 (f : RxFrame) : Word := f.payload.headD 0

/-- Payload word 2, or 0 where the frame has none. -/
def word2 (f : RxFrame) : Word := f.payload.tail.headD 0

/-- The data-space or control address of a READ, WRITE, CREAD or CWRITE (R175). -/
def address (f : RxFrame) : Word := f.word1

/-- The data words of a READ, WRITE, CREAD or CWRITE: the payload after the address (R175). -/
def data (f : RxFrame) : List Word := f.payload.tail

/-- The segment a segment command names: operand bits 1 and 0 (R188). -/
def operandSegment (f : RxFrame) : SegId :=
  ⟨(f.word2.extractLsb' 0 2).toNat, (f.word2.extractLsb' 0 2).isLt⟩

/-- The synced flag of SEGMENT_START: operand bit 8 (R188). -/
def operandSynced (f : RxFrame) : Bool := f.word2.getLsbD 8

/-- The level a RELEASE names; none above 7 (R151, R175). -/
def releaseLevel? (f : RxFrame) : Option LevelId :=
  if h : f.word1.toNat < 8 then some ⟨f.word1.toNat, h⟩ else none

/-- The sequence a RELEASE quotes: bits 7 to 0 (R175). -/
def releaseSequence (f : RxFrame) : Byte := f.word2.extractLsb' 0 8

/-- The count of a CREAD is 1 to 16 and no word follows the address (R182). -/
def creadWellFormed (f : RxFrame) : Bool :=
  1 ≤ f.count && f.count ≤ Config.maxCount && f.data.isEmpty

/-- The count of a CWRITE is 1 to 16 and agrees with its data words (R182). -/
def cwriteWellFormed (f : RxFrame) : Bool :=
  1 ≤ f.count && f.count ≤ Config.maxCount && f.data.length == f.count

/-- The span lies within the configuration words of one segment (R135, R179). -/
def inSegmentConfig (a n : Nat) : Bool :=
  allSegs.any fun g => 0x300 + 0x20 * g.val ≤ a && a + n ≤ 0x303 + 0x20 * g.val

/-- The row that takes a CWRITE, by the objects its span names; every other CWRITE is the CWRITE row's. -/
def cwriteRow (f : RxFrame) : TakenRow :=
  if f.cwriteWellFormed then
    let a := f.address.toNat
    if a + f.count ≤ 0x80 then .shadowWindowWrite
    else if inSegmentConfig a f.count then .segmentConfigWrite
    else if a = 0x400 && f.count == 1 then .maskSetWrite
    else if a = 0x404 && f.count == 1 then .resendIntervalWrite
    else .cwrite
  else .cwrite

/-- The row that takes a COMMAND, by its code (R188). -/
def commandRow (f : RxFrame) : TakenRow :=
  match CommandCode.ofWord? f.word1 with
  | some .commit => .commit
  | some .copyActive => .copyActive
  | some .segmentStart => .segmentStart
  | some .segmentStop => .segmentStop
  | some .segmentSynced => .segmentSynced
  | some .segmentReset => .segmentReset
  | some .managementReset => .managementReset
  | none => .unknownCommandCode

/-- The one row that takes a frame (R169, R170; log 3). -/
def row (f : RxFrame) : TakenRow :=
  match f.structuralKind? with
  | none => .malformedFrame
  | some .read => .read
  | some .write => .write
  | some .flush => .flush
  | some .cancel => .cancel
  | some .cread => .counterReadAndClear
  | some .cwrite => f.cwriteRow
  | some .command => f.commandRow
  | some .release => .release

end RxFrame

end Sys2Proof.Machine
end

