-- ==== Sys2Proof/Machine/Ops.lean ====
section
/-! DEFINITION. The named operations every block's meanings are built from: one home and one accessor
for each piece of state, counting, raising attention, transmit places, and time. -/

namespace Sys2Proof.Machine

/-! ## Counters (R196 to R200) -/

/-- The ten counters of a segment (R197). -/
inductive SegEvent where
  | legsSent
  | legsDone
  | legTimeouts
  | rewinds
  | deviceRefusals
  | corruptFrames
  | strayFrames
  | attentionReports
  | attentionDropped
  | faults
  deriving DecidableEq, Repr

/-- The counters of the trunk and the part (R198). -/
inductive PartEvent where
  | framesReceived
  | framesCheckFailed
  | framesMalformed
  | framesOverrun
  | responsesSent
  | attentionFramesSent
  | attentionResends
  | requestsBusy
  | linkDownEvents
  deriving DecidableEq, Repr

def SegEvent.offset : SegEvent → Fin 10
  | .legsSent => 0
  | .legsDone => 1
  | .legTimeouts => 2
  | .rewinds => 3
  | .deviceRefusals => 4
  | .corruptFrames => 5
  | .strayFrames => 6
  | .attentionReports => 7
  | .attentionDropped => 8
  | .faults => 9

/-- Counter `10s + j` counts event `j` on segment `s` (R196). -/
def segCounter (g : SegId) (e : SegEvent) : Fin 49 :=
  ⟨10 * g.val + e.offset.val, by have := e.offset.isLt; omega⟩

/-- Counters 40 to 48 (R198). -/
def partCounter : PartEvent → Fin 49
  | .framesReceived => 40
  | .framesCheckFailed => 41
  | .framesMalformed => 42
  | .framesOverrun => 43
  | .responsesSent => 44
  | .attentionFramesSent => 45
  | .attentionResends => 46
  | .requestsBusy => 47
  | .linkDownEvents => 48

/-- A raise into a level's latch (R140, R141): level 0 gathers the set, the others take the new detail. -/
def Level.raised (l : LevelId) (detail : Word) (lv : Level) : Level :=
  { lv with latch := some (match lv.latch with
      | some old => if l = 0 then old ||| detail else detail
      | none => detail) }

namespace State

/-! ## Accessors -/

def seg (s : State) (g : SegId) : SegCtl := s.sc[g]

def setSeg (s : State) (g : SegId) (c : SegCtl) : State := { s with sc := s.sc.set g c }

def entry (s : State) (t : Tag) : Entry := s.tt[t]

def setEntry (s : State) (t : Tag) (e : Entry) : State := { s with tt := s.tt.set t e }

def level (s : State) (l : LevelId) : Level := s.au.levels[l]

def setLevel (s : State) (l : LevelId) (lv : Level) : State :=
  { s with au.levels := s.au.levels.set l lv }

def counter (s : State) (i : Fin 49) : Word := s.cb.counters[i]

/-- The part operates: PORN is not asserted (R180). -/
def live (s : State) : Bool := !s.pins.porn

/-! ## Raising attention and counting -/

/-- A raise of a level (R141). -/
def raise (s : State) (l : LevelId) (detail : Word) : State :=
  s.setLevel l ((s.level l).raised l detail)

/-- Whether one more count brings the counter to its largest value (R199). -/
def fills (s : State) (i : Fin 49) : Bool :=
  s.counter i != Config.counterMax && s.counter i + 1 == Config.counterMax

/-- One count (R196, R199, R200): a full counter stays; a count that fills it adds it to the saturated set and
raises level 7 with detail 0, unless the step has raised level 7 for another counter and delivered it (`told`). -/
def count (s : State) (i : Fin 49) (told : Bool := false) : State :=
  { s with
    cb.counters := if s.counter i = Config.counterMax then s.cb.counters
      else s.cb.counters.set i (s.counter i + 1)
    cb.saturated := if s.fills i then s.cb.saturated.set i true else s.cb.saturated
    au.levels := if s.fills i && !told then s.au.levels.set 7 ((s.level 7).raised 7 0) else s.au.levels }

/-- Some counter has joined the saturated set since `before`: level 7 has been raised in this step (R200). -/
@[irreducible] def joinedSince (s before : State) : Bool :=
  (List.finRange 49).any fun i => s.cb.saturated[i] && !before.cb.saturated[i]

/-! ## Transmit places (R168) -/

/-- Free places: 64 less the occupied and the held ones. -/
def freePlaces (s : State) : Nat := Config.transmitPlaces - s.tp.tx.length - s.tp.held

/-- An answer or response takes its held place and stands at the tail; it is counted (R168, R171). -/
def placeResponse (s : State) (r : Response) : State :=
  count { s with tp.tx := s.tp.tx ++ [.response r], tp.held := s.tp.held - 1 }
    (partCounter .responsesSent)

/-- An entry freed without a response gives up its hold (R168). -/
def releaseHold (s : State) : State := { s with tp.held := s.tp.held - 1 }

/-! ## Segment Controllers -/

/-- Free slots: 16 less the queued and the sent legs (R102). -/
def freeSlots (s : State) (g : SegId) : Nat :=
  Config.slots - (s.seg g).queue.length - (s.seg g).sent.length

/-- A frame placed on a segment link. -/
def placeOnLine (s : State) (g : SegId) (f : DownFrame) : State :=
  s.setSeg g { s.seg g with line := (s.seg g).line ++ [f] }

end State

/-- The segment is ACTIVE or REJOINING: it sends legs and takes answers and reports (R124). -/
def SegState.carries : SegState → Bool
  | .active | .rejoining => true
  | _ => false

/-- The configuration may be written (R135), and SEGMENT_START is allowed (R125). -/
def SegState.idle : SegState → Bool
  | .offline | .faulted => true
  | _ => false

/-- Segment state codes (R176). -/
def SegState.code : SegState → Nat
  | .offline => 0
  | .resetting _ => 1
  | .probing _ _ _ => 2
  | .rejoining => 3
  | .active => 4
  | .faulted => 5

/-- The segment's line reset output SEGn_LRST is asserted exactly while it is RESETTING (R131). -/
def SegCtl.lineReset (c : SegCtl) : Bool :=
  match c.state with
  | .resetting _ => true
  | _ => false

/-- The attention level of a segment's devices: 2 + s (R140). -/
def deviceLevel (g : SegId) : LevelId := ⟨2 + g.val, by omega⟩

/-! ## Time (R112, R164, R180) -/

def SegState.elapse (n : Nat) : SegState → SegState
  | .resetting t => .resetting (t - n)
  | .probing tag t y => .probing tag (t - n) y
  | st => st

def SegCtl.elapse (n : Nat) (c : SegCtl) : SegCtl :=
  { c with state := c.state.elapse n, sent := c.sent.map fun x => { x with timer := x.timer - n } }

def Deadline.elapse (n : Nat) : Deadline → Deadline
  | .running t => .running (t - n)
  | d => d

def Service.elapse (n : Nat) (v : Service) : Service := { v with deadline := v.deadline.elapse n }

def Level.elapse (n : Nat) (lv : Level) : Level :=
  { lv with service := lv.service.map (Service.elapse n) }

namespace State

/-- `n` µs pass for every running timer; a timer that has run out stays at 0 until its expiry is taken. -/
def elapse (n : Nat) (s : State) : State :=
  { s with
    sc := s.sc.map (SegCtl.elapse n)
    au.levels := s.au.levels.map (Level.elapse n)
    tp.qualifying := s.tp.qualifying.map (· - n)
    tp.loss := s.tp.loss.map (· - n) }

/-- One 1 µs tick, while the clock is present and PORN is released (R180). -/
def tick (s : State) : State :=
  if s.live && s.pins.refclk then s.elapse 1 else s

/-- The time `n` left on a timer passes, so that the timer's expiry can be taken. It cannot pass while
the clock is absent (R180). -/
def runOut? (s : State) (n : Nat) : Option State :=
  if n = 0 then some s else if s.pins.refclk then some (s.elapse n) else none

end State

end Sys2Proof.Machine
end

