-- ==== Sys2Proof/Machine/Attention.lean ====
section
/-! DEFINITION. The Attention Unit: delivery, resends, release, loss and reset (Chapter 8), and the two
commands ATTENTION_DELIVERY, DEFERRED_RESEND and the timer command RESEND_DEADLINE_EXPIRY. -/

namespace Sys2Proof.Machine

/-- The set of levels a test holds for, bit L for level L (R163, R176). -/
def levelsWhere (f : LevelId → Bool) : Word :=
  allLevels.foldl (fun acc l => if f l then acc ||| (1#32 <<< l.val) else acc) 0#32

/-- A deadline as it is started from the resend interval: none when the interval is 0 (R149, R150). -/
def Deadline.start (interval : Nat) : Deadline :=
  if interval = 0 then .off else .running (interval * Config.microsPerMilli)

namespace State

def inService (s : State) (l : LevelId) : Bool := (s.level l).service.isSome

def requested (s : State) (l : LevelId) : Bool := (s.level l).latch.isSome

/-- The in-service set as a word (0x402). -/
def inServiceSet (s : State) : Word := levelsWhere s.inService

/-- The Attention Unit may place frames: the link is UP, PORN is released, no reset waits (R144, R161). -/
def attentionMayPlace (s : State) : Bool :=
  s.live && s.tp.link == .up && !s.cb.resetWaiting

/-- A level is deliverable (R144), while the Attention Unit may place frames. -/
def deliverable (s : State) (l : LevelId) : Bool :=
  s.attentionMayPlace && s.requested l && !(s.level l).masked && !s.inService l
    && allLevels.all (fun m => !s.inService m || l < m)

/-- The highest-priority deliverable level (R144). -/
def deliveryChoice (s : State) : Option LevelId := allLevels.find? s.deliverable

/-- An ATTENTION frame at the tail of the transmit queue; it takes a free place (R168). -/
def placeAttention (s : State) (l : LevelId) (sequence : Byte) (detail : Word) : State :=
  { s with tp.tx := s.tp.tx ++ [.attention l sequence detail] }

/-- The delivery of a level with the detail its latch holds (R145). `told`: level 7 has been raised in this step
already, and a count that fills attention_frames_sent raises it no second time (R200). -/
def deliver (s : State) (told : Bool) (l : LevelId) (detail : Word) : State :=
  let q := s.au.nextSequence
  let v : Service := { sequence := q, detail := detail, deadline := Deadline.start s.au.interval }
  let s := s.setLevel l { s.level l with latch := none, service := some v }
  let s := { s with au.nextSequence := q + 1 }
  (s.placeAttention l q detail).count (partCounter .attentionFramesSent) told

/-- The delivery choice, subject to a free place (R144, R145). -/
def offerDelivery (s : State) (told : Bool) : State :=
  match s.deliveryChoice with
  | some l =>
    match (s.level l).latch with
    | some d => if 0 < s.freePlaces then s.deliver told l d else s
    | none => s
  | none => s

/-- The resend of a level in service: same frame, deadline started anew, counted (R149). -/
def resend (s : State) (l : LevelId) (v : Service) : State :=
  let s := s.setLevel l
    { s.level l with service := some { v with deadline := Deadline.start s.au.interval } }
  (s.placeAttention l v.sequence v.detail).count (partCounter .attentionResends)

/-- A waiting resend of a level takes a place if one is free (R149, R171). -/
def offerResend (s : State) (l : LevelId) : State :=
  match (s.level l).service with
  | some v =>
    if v.deadline = .waiting && s.attentionMayPlace && 0 < s.freePlaces then s.resend l v else s
  | none => s

/-- Waiting resends take free places in ascending order of level (R149). -/
def offerResends (s : State) : State := allLevels.foldl offerResend s

/-- The end of a step that began in `before`: free places go to waiting resends, then to the delivery choice
(R144, R145, R171). The frames stand after every answer and response of the step (R145). -/
@[irreducible] def finish (s before : State) : State :=
  let s := s.offerResends
  s.offerDelivery (s.joinedSince before)

/-- A level's resend deadline expires (R149). While a reset waits it is not restarted (R161). -/
def resendExpired (s : State) (l : LevelId) (v : Service) : State :=
  if s.cb.resetWaiting then
    s.setLevel l { s.level l with service := some { v with deadline := .off } }
  else if s.attentionMayPlace && 0 < s.freePlaces then s.resend l v
  else s.setLevel l { s.level l with service := some { v with deadline := .waiting } }

end State

/-- At trunk loss a level in service returns to its latch (R159): level 0 adds its set, the others keep a
latch already set. -/
def Level.returned (l : LevelId) (lv : Level) : Level :=
  match lv.service with
  | none => lv
  | some v =>
    { lv with
      service := none
      latch := some (match lv.latch with
        | some old => if l = 0 then old ||| v.detail else old
        | none => v.detail) }

namespace State

/-- The Attention Unit at trunk loss (R159). -/
def attentionLoss (s : State) : State :=
  { s with au.levels := s.au.levels.mapFinIdx fun i lv h => lv.returned ⟨i, h⟩ }

/-- The Attention Unit when a management reset takes effect (R161). -/
def attentionReset (s : State) : State :=
  { s with
    au.levels := s.au.levels.map fun lv => { lv with latch := none, service := none }
    au.nextSequence := 0 }

/-- A segment's attention queue is emptied and the latch of its level is cleared; a level in service stays in service
(R132, R157). R154's fourth case says otherwise of a level that a RELEASE has just delivered again; that R152 and
R157 prevail there is the model's choice (log 23). -/
def dropReports (s : State) (g : SegId) : State :=
  (s.setSeg g { s.seg g with attention := [] }).setLevel (deviceLevel g)
    { s.level (deviceLevel g) with latch := none }

/-- The attention queue of a segment at an accepted RELEASE of its level (R153): ATTN_ACK for the head,
the head is removed, and a head that follows raises the level. -/
def serveReports (s : State) (g : SegId) : State :=
  if (s.seg g).state.carries then
    match (s.seg g).attention with
    | [] => s
    | head :: rest =>
      let s := (s.setSeg g { s.seg g with attention := rest }).placeOnLine g (.attnAck head)
      match rest with
      | [] => s
      | next :: _ => s.raise (deviceLevel g) (next.setWidth 32)
  else s

/-- The segment whose devices a level serves (R140). -/
def levelSegment? (l : LevelId) : Option SegId :=
  if h : 2 ≤ l.val ∧ l.val ≤ 5 then some ⟨l.val - 2, by omega⟩ else none

/-- An accepted RELEASE takes its level out of service (R152, R153), before the delivery choice. -/
def releaseLevel (s : State) (l : LevelId) : State :=
  let s := s.setLevel l { s.level l with service := none }
  match levelSegment? l with
  | some g => s.serveReports g
  | none => s

/-- An ATTN_REPORT taken on a segment that carries legs (R155). -/
def takeReport (s : State) (g : SegId) (source : Byte) : State :=
  let q := (s.seg g).attention
  if source ∈ q then s
  else if q.length < Config.attentionCapacity then
    let t := s.setSeg g { s.seg g with attention := q ++ [source] }
    let t := if q.isEmpty then t.raise (deviceLevel g) (source.setWidth 32) else t
    t.count (segCounter g .attentionReports)
  else s.count (segCounter g .attentionDropped)

end State

/-! ## Commands -/

/-- ATTENTION_DELIVERY (R144, R145): the delivery choice is made. A waiting resend takes its place first
(R149). -/
def execAttentionDelivery (s : State) : Host.Outcome State Fault Refusal :=
  .next (if s.live then s.finish s else s)

/-- DEFERRED_RESEND (R149, R171): waiting resends take the free places; what remains goes to a delivery. -/
def execDeferredResend (s : State) : Host.Outcome State Fault Refusal :=
  .next (if s.live then s.finish s else s)

/-- RESEND_DEADLINE_EXPIRY (R149): the running deadline of a level in service runs out. A level out of
service, or without a running deadline, has no expiry (R149). -/
def execResendDeadlineExpiry (l : LevelId) (s : State) : Host.Outcome State Fault Refusal :=
  .next <|
    match s.live, (s.level l).service.map Service.deadline with
    | true, some (.running n) =>
      match s.runOut? n with
      | some s =>
        match (s.level l).service with
        | some v => (s.resendExpired l v).finish s
        | none => s
      | none => s
    | _, _ => s

end Sys2Proof.Machine
end

