-- ==== Sys2Proof/Machine/Windows.lean ====
section
/-! DEFINITION. The Window Banks: matching, translation, validity, record words, roles and counts
(Chapters 1 and 2). -/

namespace Sys2Proof.Machine

/-! ## One record -/

def Access.allowsRead : Access → Bool
  | .readWrite | .readOnly => true
  | _ => false

def Access.allowsWrite : Access → Bool
  | .readWrite | .writeOnly => true
  | _ => false

namespace WindowRecord

/-- size = 2^k words (R2). -/
abbrev size (w : WindowRecord) : Nat := 2 ^ w.k.toNat

/-- period = 2^p words (R2). -/
abbrev period (w : WindowRecord) : Nat := 2 ^ w.p.toNat

/-- The offset of an address in the window, when it matches (R7). -/
def offset? (w : WindowRecord) (address : Word) : Option Nat :=
  let m := address.toNat % w.period
  if w.enabled && w.base.toNat ≤ m && m - w.base.toNat < w.size then some (m - w.base.toNat)
  else none

/-- The access check (R10). -/
def allows (w : WindowRecord) (isWrite : Bool) : Bool :=
  if isWrite then w.access.allowsWrite else w.access.allowsRead

/-- A segment address of the window: page × 65,536 + position (R11). -/
def segAddr (w : WindowRecord) (position : Nat) : SegAddr :=
  BitVec.ofNat 24 (w.page.toNat * 65536 + position)

/-- The parts of a request at an offset (R12, R13); none when it runs past the end under REFUSE (R14). -/
def parts? (w : WindowRecord) (o n : Nat) : Option Parts :=
  if o + n ≤ w.size then some { first := ⟨w.segAddr o, n⟩, second := none }
  else match w.boundary with
    | .wrap => some { first := ⟨w.segAddr o, w.size - o⟩, second := some ⟨w.segAddr 0, o + n - w.size⟩ }
    | .refuse => none

/-- The read list's members: its first `length` entries (R5). -/
def members (w : WindowRecord) : List SegId := w.readList.toList.take w.readLength.toNat

/-- The read list's length and distinctness for its mode (R18). -/
def readListWellFormed (w : WindowRecord) : Bool :=
  let n := w.readLength.toNat
  (match w.readMode with
    | .preferred => 1 ≤ n && n ≤ 4
    | .vote => n == 2 || n == 3)
  && decide w.members.Nodup

/-- The conditions of R18, in the table's order. -/
def conditions (w : WindowRecord) : List Bool :=
  [ 4 ≤ w.k.toNat && w.k.toNat ≤ 16,
    w.k.toNat ≤ w.p.toNat && w.p.toNat ≤ 32,
    decide (w.base.toNat < w.period) && w.base.toNat % w.size == 0,
    w.access != .undefined,
    !w.access.allowsWrite || w.writeSet != 0,
    !w.access.allowsRead || w.readListWellFormed,
    decide (w.retryLimit.toNat ≤ 3) ]

/-- The ordinal, 1 to 7, of the first condition an enabled record fails (R18, R27). -/
def firstFailure? (w : WindowRecord) : Option Nat :=
  if w.enabled then (w.conditions.findIdx? (fun c => !c)).map (· + 1) else none

/-- A record is valid (R18). -/
def valid (w : WindowRecord) : Bool := w.firstFailure?.isNone

end WindowRecord

/-! ## Record words (R178) -/

def Access.code : Access → BitVec 2
  | .readWrite => 0
  | .readOnly => 1
  | .writeOnly => 2
  | .undefined => 3

def Access.ofCode (c : BitVec 2) : Access :=
  if c = 0 then .readWrite else if c = 1 then .readOnly else if c = 2 then .writeOnly else .undefined

/-- A segment number from a two-bit field. -/
def segOfBits (b : BitVec 2) : SegId := ⟨b.toNat, b.isLt⟩

namespace WindowRecord

/-- Word `j` of a record as it is read (R178). -/
def word (w : WindowRecord) (j : Fin 4) : Word :=
  match j with
  | 0 =>
    (flagWord w.enabled <<< 31) ||| (w.access.code.setWidth 32 <<< 28)
      ||| (flagWord (w.readMode == .vote) <<< 27) ||| (flagWord (w.policy == .degraded) <<< 26)
      ||| (flagWord (w.boundary == .refuse) <<< 25) ||| (w.retryLimit.setWidth 32 <<< 16)
      ||| (w.k.setWidth 32 <<< 8) ||| w.p.setWidth 32
  | 1 => w.base
  | 2 => (w.writeSet.setWidth 32 <<< 8) ||| w.page.setWidth 32
  | 3 =>
    (toWord w.readList[3].val <<< 14) ||| (toWord w.readList[2].val <<< 12)
      ||| (toWord w.readList[1].val <<< 10) ||| (toWord w.readList[0].val <<< 8)
      ||| w.readLength.setWidth 32

/-- Word `j` of a record written; bits that no field names are ignored (R178). -/
def writeWord (w : WindowRecord) (j : Fin 4) (x : Word) : WindowRecord :=
  match j with
  | 0 =>
    { w with
      enabled := x.getLsbD 31
      access := .ofCode (x.extractLsb' 28 2)
      readMode := if x.getLsbD 27 then .vote else .preferred
      policy := if x.getLsbD 26 then .degraded else .strict
      boundary := if x.getLsbD 25 then .refuse else .wrap
      retryLimit := x.extractLsb' 16 3
      k := x.extractLsb' 8 5
      p := x.extractLsb' 0 6 }
  | 1 => { w with base := x }
  | 2 => { w with writeSet := x.extractLsb' 8 4, page := x.extractLsb' 0 8 }
  | 3 =>
    { w with
      readList := #v[segOfBits (x.extractLsb' 8 2), segOfBits (x.extractLsb' 10 2),
        segOfBits (x.extractLsb' 12 2), segOfBits (x.extractLsb' 14 2)]
      readLength := x.extractLsb' 0 3 }

end WindowRecord

/-! ## Banks, roles and counts -/

def Bank.other : Bank → Bank
  | .a => .b
  | .b => .a

/-- The code of a bank letter: 0 A, 1 B (R176, R179). -/
def Bank.code : Bank → Word
  | .a => 0
  | .b => 1

namespace WindowBanks

def shadow (b : WindowBanks) : Bank := b.active.other

def bank (b : WindowBanks) : Bank → Vector WindowRecord 32
  | .a => b.bankA
  | .b => b.bankB

def inflight (b : WindowBanks) : Bank → Nat
  | .a => b.inflightA
  | .b => b.inflightB

def setBank (b : WindowBanks) (which : Bank) (v : Vector WindowRecord 32) : WindowBanks :=
  match which with
  | .a => { b with bankA := v }
  | .b => { b with bankB := v }

def setInflight (b : WindowBanks) (which : Bank) (n : Nat) : WindowBanks :=
  match which with
  | .a => { b with inflightA := n }
  | .b => { b with inflightB := n }

/-- A record of a bank. -/
def record (b : WindowBanks) (which : Bank) (w : WindowId) : WindowRecord := (b.bank which)[w]

/-- The shadow is DRAINING while its in-flight count is above zero (R22). -/
def draining (b : WindowBanks) : Bool := 0 < b.inflight b.shadow

/-- The lowest-numbered window of the active bank the address matches, with the offset (R7, R8). -/
def lookup (b : WindowBanks) (address : Word) : Option (WindowId × Nat) :=
  allTags.findSome? fun w => (b.record b.active w).offset? address |>.map fun o => (w, o)

/-- The lowest-numbered invalid record of a bank with the ordinal of its first failing condition (R27). -/
def firstInvalid (b : WindowBanks) (which : Bank) : Option (WindowId × Nat) :=
  allTags.findSome? fun w => (b.record which w).firstFailure?.map fun c => (w, c)

/-- A shadow record word written (R24). -/
def writeShadow (b : WindowBanks) (w : WindowId) (j : Fin 4) (x : Word) : WindowBanks :=
  b.setBank b.shadow ((b.bank b.shadow).set w ((b.record b.shadow w).writeWord j x))

end WindowBanks

/-- What a decode answers (R16). -/
inductive Decoded where
  | noWindow
  | access (window : WindowId)
  | boundary (window : WindowId)
  | hit (bank : Bank) (window : WindowId) (offset : Nat) (parts : Parts)
  deriving DecidableEq, Repr

/-- The decode of a request's address and count against the active bank (R7 to R16). -/
def WindowBanks.decode (b : WindowBanks) (isWrite : Bool) (address : Word) (n : Nat) : Decoded :=
  match b.lookup address with
  | none => .noWindow
  | some (w, o) =>
    let r := b.record b.active w
    if r.allows isWrite then
      match r.parts? o n with
      | some ps => .hit b.active w o ps
      | none => .boundary w
    else .access w

namespace State

/-- The decoding bank's count rises by one (R21). -/
def countIn (s : State) (which : Bank) : State :=
  { s with wb := s.wb.setInflight which (s.wb.inflight which + 1) }

/-- The recorded bank's count falls by one; a shadow whose count so reaches zero raises level 6 with its
letter (R21, R29). -/
def countOut (s : State) (which : Bank) : State :=
  let t := { s with wb := s.wb.setInflight which (s.wb.inflight which - 1) }
  if which = s.wb.shadow && s.wb.inflight which == 1 then t.raise 6 which.code else t

/-- The roles swap (R28); a former active bank with no open entry raises level 6 at once (R29). -/
def swapBanks (s : State) : State :=
  let t := { s with
    wb.active := s.wb.shadow
    wb.generation := s.wb.generation + 1 }
  if s.wb.inflight s.wb.active = 0 then t.raise 6 s.wb.active.code else t

end State

end Sys2Proof.Machine
end

