-- ==== Sys2Proof/Machine/Flags.lean ====
section
/-! DEFINITION. The flags, sets and status of a response, computed from an entry's legs: applied set,
per-segment detail, WRITE result, PREFERRED result, vote and dissent (Chapters 3 to 5). -/

namespace Sys2Proof.Machine

namespace Parts

/-- The number of parts, 1 or 2. -/
def count (p : Parts) : Nat := if p.second.isSome then 2 else 1

/-- The part numbers of a request, in order. -/
def numbers (p : Parts) : List PartNo := if p.second.isSome then [.one, .two] else [.one]

/-- A part by number; a request without part 2 answers part 1. -/
def get (p : Parts) : PartNo → Part
  | .one => p.first
  | .two => p.second.getD p.first

/-- The request words a part carries (R12, R13). -/
def wordsOf (p : Parts) (data : List Word) : PartNo → List Word
  | .one => data.take p.first.length
  | .two => data.drop p.first.length

end Parts

namespace LegState

def isDone : LegState → Bool
  | .done _ => true
  | _ => false

/-- QUEUED or SENT: not settled (R44). -/
def inFlight : LegState → Bool
  | .queued | .sent => true
  | _ => false

def reason? : LegState → Option FailureReason
  | .failed r => some r
  | _ => none

/-- The words a DONE leg holds; none kept reads as no words. -/
def words : LegState → List Word
  | .done (some d) => d
  | _ => []

end LegState

/-- Per-segment detail codes (R176). -/
def FailureReason.code : FailureReason → Nat
  | .timeout => 1
  | .deviceRefused => 2
  | .segmentFaulted => 3
  | .segmentStopped => 4

/-- The detail code DIFFERED (R94, R176). -/
def differedCode : Nat := 5

/-- A detail word of four per-segment fields, bits 8s + 7 to 8s for segment s (R176). -/
def segmentDetail (f : SegId → Nat) : Word :=
  allSegs.foldl (fun acc g => acc ||| (toWord (f g) <<< (8 * g.val))) 0#32

/-- The first member after position `from?` whose segment passes the test, with its position (R79, R83). -/
def nextMember (members : List SegId) (from? : Option Nat) (ok : SegId → Bool) : Option (Fin 4 × SegId) :=
  ([0, 1, 2, 3] : List (Fin 4)).findSome? fun i =>
    match members[i.val]? with
    | some g => if (match from? with | some c => c < i.val | none => true) && ok g then some (i, g) else none
    | none => none

namespace DataEntry

/-- Some leg is QUEUED or SENT. -/
def anyInFlight (d : DataEntry) : Bool := d.legs.any (fun l => l.state.inFlight)

/-- Some leg is SENT. -/
def anySent (d : DataEntry) : Bool := d.legs.any (fun l => l.state == .sent)

/-- The segment a PREFERRED READ's failover waits on (R85). -/
def waiting (d : DataEntry) : Option SegId :=
  match d.request with
  | .preferred _ w => w
  | _ => none

/-- The entry with its failover wait dropped (R54, R57). -/
def dropWait (d : DataEntry) : DataEntry :=
  match d.request with
  | .preferred c _ => { d with request := .preferred c none }
  | _ => d

/-- A WRITE's skipped set; a READ has none (R55, R71). -/
def skipped (d : DataEntry) : SegSet :=
  match d.request with
  | .write _ sk => sk
  | _ => 0

/-- The kind code of the request (R175). -/
def kindCode (d : DataEntry) : Byte :=
  match d.request with
  | .write _ _ => RequestKind.write.code
  | _ => RequestKind.read.code

/-- Legs on a segment, in leg-list order. -/
def legsOn (d : DataEntry) (g : SegId) : List Leg := d.legs.filter (fun l => l.seg == g)

/-- Every part has a DONE leg on the segment (R55, R68, R91). -/
def appliedOn (d : DataEntry) (g : SegId) : Bool :=
  d.parts.numbers.all fun p => (d.legsOn g).any fun l => l.part == p && l.state.isDone

/-- The applied set (R55, R68). -/
def applied (d : DataEntry) : SegSet := segsWhere d.appliedOn

/-- The code of the first FAILED leg's reason on the segment, else 0 (R71, R89, R94). -/
def failureCode (d : DataEntry) (g : SegId) : Nat :=
  match (d.legsOn g).findSome? (fun l => l.state.reason?) with
  | some r => r.code
  | none => 0

/-- The segment has a leg of the entry. -/
def leggedOn (d : DataEntry) (g : SegId) : Bool := d.legs.any (fun l => l.seg == g)

/-- The data a segment returned: the words of its DONE legs, part 1 then part 2 (R96). -/
def dataFrom (d : DataEntry) (g : SegId) : List Word :=
  d.parts.numbers.flatMap fun p =>
    match (d.legsOn g).find? (fun l => l.part == p && l.state.isDone) with
    | some l => l.state.words
    | none => []

/-- The cursor segment of a PREFERRED READ under its window record (R80). -/
def cursorSeg? (d : DataEntry) (w : WindowRecord) : Option SegId :=
  match d.request with
  | .preferred c _ => some w.readList[c]
  | _ => none

/-- A leg on the segment is superseded: the PREFERRED READ has failed over away from the segment (R81,
R82). The cursor segment itself is left by a failover that found no next member (R83, log 10). -/
def supersededOn (d : DataEntry) (w : WindowRecord) (g : SegId) : Bool :=
  match d.cursorSeg? w with
  | some c => g != c || d.noneLeft
  | none => false

/-! ## Results -/

/-- A WRITE's status (R70). -/
def writeStatus (d : DataEntry) : Status :=
  if d.legs.all (fun l => l.state.isDone) then .ok
  else if allSegs.any d.appliedOn then .partly
  else .failed

/-- The response of a settled WRITE (R71). -/
def writeResponse (d : DataEntry) (t : Tag) : Response :=
  { kind := d.kindCode, tag := t, status := d.writeStatus, applied := d.applied, skipped := d.skipped,
    dissent := false, detail := segmentDetail d.failureCode, data := [] }

/-- The response of a settled PREFERRED READ, whose cursor segment is `c` (R89). -/
def preferredResponse (d : DataEntry) (t : Tag) (c : SegId) : Response :=
  { kind := d.kindCode, tag := t
    status := if d.appliedOn c then .ok else .failed
    applied := if d.appliedOn c then segsWhere (· == c) else 0
    skipped := 0, dissent := false, detail := segmentDetail d.failureCode
    data := if d.appliedOn c then d.dataFrom c else [] }

/-- The successful members of a VOTE READ, in ascending order (R91). -/
def successful (d : DataEntry) : List SegId := allSegs.filter d.appliedOn

/-- The winning data: that on which two successful members agree (R92). -/
def winning? (d : DataEntry) : Option (List Word) :=
  (d.successful.find? fun g => d.successful.any fun h => g != h && d.dataFrom g == d.dataFrom h).map
    d.dataFrom

/-- Dissent (R93). -/
def hasDissent (d : DataEntry) : Bool :=
  match d.winning? with
  | some x => d.successful.any (fun g => d.dataFrom g != x)
  | none => 2 ≤ d.successful.length

/-- A segment's detail field in a counted vote (R94). -/
def voteCode (d : DataEntry) (g : SegId) : Nat :=
  if d.appliedOn g then
    match d.winning? with
    | some x => if d.dataFrom g = x then 0 else differedCode
    | none => if d.hasDissent then differedCode else 0
  else d.failureCode g

/-- The response of a settled VOTE READ (R92, R94). -/
def voteResponse (d : DataEntry) (t : Tag) : Response :=
  { kind := d.kindCode, tag := t
    status := if d.winning?.isSome then .ok else .voteFail
    applied := d.applied, skipped := 0, dissent := d.hasDissent
    detail := segmentDetail d.voteCode, data := d.winning?.getD [] }

/-- The CANCELLED response of a READ or WRITE (R55). -/
def cancelledResponse (d : DataEntry) (t : Tag) : Response :=
  { kind := d.kindCode, tag := t, status := .cancelled, applied := d.applied, skipped := d.skipped,
    dissent := false, detail := 0, data := [] }

/-- The legs by state, as the transit view's word 3 shows them (R179, R195). -/
def legSummary (d : DataEntry) : Word :=
  let n (f : LegState → Bool) : Word := toWord (d.legs.countP fun l => f l.state)
  n (· == .queued) ||| (n (· == .sent) <<< 4) ||| (n LegState.isDone <<< 8)
    ||| (n (fun x => x.reason?.isSome) <<< 12) ||| (n (· == .withdrawn) <<< 16)

end DataEntry

/-- The response of a FLUSH (R43, R53). -/
def flushResponse (t : Tag) (status : Status) (n : Nat) : Response :=
  { kind := RequestKind.flush.code, tag := t, status := status, applied := 0, skipped := 0,
    dissent := false, detail := toWord n, data := [] }

end Sys2Proof.Machine
end

