-- ==== Sys2Proof/Machine/Transit.lean ====
section
/-! DEFINITION. The Transit Table's operations: leg records and outcomes, settling, freeing and the
barrier chain, withdrawal, failover and its waits, abandonment (Chapters 3 to 5). -/

namespace Sys2Proof.Machine

/-- An entry's barrier set loses a tag (R49, R51). -/
def Entry.dropBarrierTag (t : Tag) : Entry → Entry
  | .flushing barrier size => .flushing (barrier.filter (· != t)) size
  | e => e

def Entry.isOpen : Entry → Bool
  | .free => false
  | _ => true

namespace State

/-- The tag is that of an open entry (R35, R36). -/
def tagInUse (s : State) (t : Tag) : Bool := (s.entry t).isOpen

/-- The tags of the open entries, ascending (R43). -/
def openTags (s : State) : List Tag := allTags.filter s.tagInUse

/-- The window record behind an open READ or WRITE (R17). -/
def windowOf (s : State) (d : DataEntry) : WindowRecord := s.wb.record d.bank d.window

/-! ## Freeing (R49) -/

/-- The entry becomes FREE and its tag leaves every barrier set. -/
def clearEntry (s : State) (t : Tag) : State :=
  { s with tt := (s.tt.set t .free).map (Entry.dropBarrierTag t) }

/-- The lowest-tagged FLUSH whose barrier set is empty, with its barrier size. -/
def releasable? (s : State) : Option (Tag × Nat) :=
  allTags.findSome? fun t =>
    match s.entry t with
    | .flushing [] n => some (t, n)
    | _ => none

/-- FLUSHes with an empty barrier set are answered OK and freed, ascending, each freeing in turn
shrinking the rest (R49). At most 32 can be. -/
def releaseFlushes : Nat → State → State
  | 0, s => s
  | k + 1, s =>
    match s.releasable? with
    | some (t, n) => releaseFlushes k ((s.placeResponse (flushResponse t .ok n)).clearEntry t)
    | none => s

/-- The chain of FLUSHes a freeing releases; none while a reset waits (R49, R59). -/
def releaseChain (s : State) : State := if s.cb.resetWaiting then s else releaseFlushes 32 s

/-- The in-flight count of a freed READ or WRITE falls (R21). -/
def uncountEntry (s : State) (t : Tag) : State :=
  match s.entry t with
  | .data d => s.countOut d.bank
  | _ => s

/-- Freeing an entry (R49). Its place has been used or released before. -/
def freeEntry (s : State) (t : Tag) : State := ((s.uncountEntry t).clearEntry t).releaseChain

/-- The entry's one response is placed, then the entry is freed (R47, R50). -/
def answerEntry (s : State) (t : Tag) (r : Response) : State := (s.placeResponse r).freeEntry t

/-- An entry is freed without a response (R50, R57). -/
def dropEntry (s : State) (t : Tag) : State := s.releaseHold.freeEntry t

/-! ## Settling (R47) -/

/-- The result of a settled entry is placed and the entry is freed; a vote with dissent raises level 1 in
the same step (R70, R89, R92, R93). -/
def settle (s : State) (t : Tag) (d : DataEntry) : State :=
  match d.request with
  | .write _ _ => s.answerEntry t (d.writeResponse t)
  | .preferred c _ => s.answerEntry t (d.preferredResponse t (s.windowOf d).readList[c])
  | .vote _ =>
    let s := if d.hasDissent then s.raise 1 (toWord t.val) else s
    let s := s.setEntry t (.data { d with request := .vote d.hasDissent })
    s.answerEntry t (d.voteResponse t)

/-- A PENDING entry is examined for settling (R47). It stays as it is while a reset waits (R59). -/
def examine (s : State) (t : Tag) : State :=
  match s.entry t with
  | .data d =>
    if d.phase = .pending && !d.anyInFlight && d.waiting.isNone && !s.cb.resetWaiting then s.settle t d
    else s
  | _ => s

/-! ## Failover waits (R85 to R87) -/

/-- The entry's failover waits on the segment. -/
def waitsOn (s : State) (g : SegId) (t : Tag) : Bool :=
  match s.entry t with
  | .data d => d.waiting == some g
  | _ => false

/-- Some entry's failover waits on the segment: it is held (R40, R85). -/
def segmentHeld (s : State) (g : SegId) : Bool := allTags.any (s.waitsOn g)

/-- Another entry's failover waits on the segment (R84). -/
def othersWait (s : State) (g : SegId) (t : Tag) : Bool := allTags.any fun u => u != t && s.waitsOn g u

/-- A fresh leg (R41, R84). -/
def freshLeg (g : SegId) (p : PartNo) : Leg := { seg := g, part := p, state := .queued, timeouts := 0 }

/-- Fresh legs for an entry on a segment, one per part: at the end of the entry's leg list and at the tail
of the segment's queue, part 1 before part 2 (R15, R84). -/
def createLegs (s : State) (t : Tag) (g : SegId) : State :=
  match s.entry t with
  | .data d =>
    let s := s.setEntry t (.data { d with legs := d.legs ++ d.parts.numbers.map (freshLeg g) })
    let refs := (List.range d.parts.count).map fun i => { entry := t, index := d.legs.length + i }
    s.setSeg g { s.seg g with queue := (s.seg g).queue ++ refs }
  | _ => s

/-- The READ moves to the next ACTIVE member after its cursor: fresh legs there with room, else a wait;
with no such member it has no segment left (R83 to R85). -/
def moveOn (s : State) (t : Tag) : State :=
  match s.entry t with
  | .data d =>
    match d.request with
    | .preferred c _ =>
      match nextMember (s.windowOf d).members (some c.val) (fun g => (s.seg g).state == .active) with
      | some (pos, g) =>
        if d.parts.count ≤ s.freeSlots g && !s.othersWait g t then
          (s.setEntry t (.data { d with request := .preferred pos none })).createLegs t g
        else s.setEntry t (.data { d with request := .preferred pos (some g) })
      | none => s.setEntry t (.data { d with request := .preferred c none, noneLeft := true })
    | _ => s
  | _ => s

/-- The waiters on a segment, lowest tag first, are given fresh legs as long as the free slots cover them
(R86). A held segment is ACTIVE. -/
def serveFrom (s : State) (g : SegId) : List Tag → State
  | [] => s
  | t :: rest =>
    if s.waitsOn g t then
      match s.entry t with
      | .data d =>
        if d.parts.count ≤ s.freeSlots g then
          serveFrom ((s.setEntry t (.data d.dropWait)).createLegs t g) g rest
        else s
      | _ => s
    else serveFrom s g rest

/-- The waiters of an ACTIVE segment are looked at, lowest tag first (R86). -/
def serveWaiters (s : State) (g : SegId) : State :=
  if (s.seg g).state = .active then s.serveFrom g allTags else s

/-- The segment's free slots rise (R86, R102). -/
def rise (s : State) (g : SegId) : State := s.setSeg g { s.seg g with risen := true }

/-- A rise of a segment's free slots is offered to its waiters, once; without a rise no waiter is looked at (R86). -/
def offerRise (s : State) (g : SegId) : State :=
  if (s.seg g).risen then (s.setSeg g { s.seg g with risen := false }).serveWaiters g else s

/-- The waits on a segment that has left ACTIVE move on, ascending, each entry then examined (R87). -/
def moveWaits (s : State) (g : SegId) : State :=
  allTags.foldl (fun s t => if s.waitsOn g t then (s.moveOn t).examine t else s) s

/-! ## Withdrawal (R45, R54, R57, R81) -/

/-- The entry's legs in the segment's queue leave it and become WITHDRAWN. -/
def withdrawFrom (s : State) (t : Tag) (g : SegId) : State :=
  match s.entry t with
  | .data d =>
    let refs := (s.seg g).queue.filter (fun r => r.entry == t)
    let legs := d.legs.mapIdx fun i l =>
      if refs.contains { entry := t, index := i } then { l with state := .withdrawn } else l
    let s := s.setEntry t (.data { d with legs := legs })
    s.setSeg g { s.seg g with queue := (s.seg g).queue.filter (fun r => r.entry != t) }
  | _ => s

/-- The entry's QUEUED legs are withdrawn from every segment's queue. -/
def withdrawQueued (s : State) (t : Tag) : State := allSegs.foldl (fun s g => s.withdrawFrom t g) s

/-- The entry's failover wait is dropped (R54, R57). -/
def dropWait (s : State) (t : Tag) : State :=
  match s.entry t with
  | .data d => s.setEntry t (.data d.dropWait)
  | _ => s

/-! ## Outcomes (R45, R46) -/

/-- A failover (R81): data of the cursor segment is discarded, its QUEUED legs are withdrawn, and the READ
moves on. During an emptying the queue is already empty, so nothing is withdrawn (R119). The slots that the
withdrawal frees rise with the slot of the failed leg, which stood on the same segment. -/
def failover (s : State) (t : Tag) : State :=
  match s.entry t with
  | .data d =>
    match d.cursorSeg? (s.windowOf d) with
    | some c =>
      let legs := d.legs.map fun l =>
        if l.seg == c && l.state.isDone then { l with state := .done none } else l
      ((s.setEntry t (.data { d with legs := legs })).withdrawFrom t c).moveOn t
    | none => s
  | _ => s

/-- What follows the recording of an outcome, by the entry's state (R46). -/
def afterOutcome (s : State) (t : Tag) (failsOver : Bool) : State :=
  match s.entry t with
  | .data d =>
    match d.phase with
    | .pending => (if failsOver then s.failover t else s).examine t
    | .cancelling =>
      if d.anySent || s.cb.resetWaiting then s else s.answerEntry t (d.cancelledResponse t)
    | .abandoned => if d.anySent then s else s.dropEntry t
  | _ => s

/-- A leg settles as DONE, FAILED or WITHDRAWN, and the outcome is taken (R45, R46). A superseded leg
stores no data and makes no failover (R82). -/
def legOutcome (s : State) (r : LegRef) (result : LegState) : State :=
  match s.entry r.entry with
  | .data d =>
    match d.legs[r.index]? with
    | some l =>
      let superseded := d.supersededOn (s.windowOf d) l.seg
      let result := if superseded && result.isDone then .done none else result
      let current := (d.cursorSeg? (s.windowOf d)).isSome && !superseded
      (s.setEntry r.entry (.data { d with legs := d.legs.set r.index { l with state := result } })).afterOutcome
        r.entry (current && result.reason?.isSome)
    | none => s
  | _ => s

/-- A change of a leg record that is no outcome (R45). -/
def updateLeg (s : State) (r : LegRef) (f : Leg → Leg) : State :=
  match s.entry r.entry with
  | .data d => s.setEntry r.entry (.data { d with legs := d.legs.modify r.index f })
  | _ => s

/-- The leg a reference names, with its entry. -/
def leg? (s : State) (r : LegRef) : Option (DataEntry × Leg) :=
  match s.entry r.entry with
  | .data d => d.legs[r.index]?.map fun l => (d, l)
  | _ => none

/-- The leg is resendable: its entry is PENDING and it is not superseded (R114). -/
def resendable (s : State) (r : LegRef) : Bool :=
  match s.leg? r with
  | some (d, l) => d.phase == .pending && !d.supersededOn (s.windowOf d) l.seg
  | none => false

/-! ## Trunk loss (R57) -/

/-- An open READ or WRITE at trunk loss: QUEUED legs and wait go; it is ABANDONED if a leg is SENT, else
freed without a response. -/
def abandon (s : State) (t : Tag) : State :=
  match s.entry t with
  | .data d =>
    if d.phase = .abandoned then s
    else
      let s := (s.withdrawQueued t).dropWait t
      match s.entry t with
      | .data d =>
        if d.anySent then s.setEntry t (.data { d with phase := .abandoned }) else s.dropEntry t
      | _ => s
  | _ => s

/-- A FLUSHING entry at trunk loss is freed without a response. The FLUSHes its freeing would release are all
freed so in the same step, and none is answered. -/
def dropFlush (s : State) (t : Tag) : State :=
  match s.entry t with
  | .flushing _ _ => s.releaseHold.clearEntry t
  | _ => s

/-- The Transit Table at trunk loss (R57): every FLUSHING entry, then every READ and WRITE. -/
@[irreducible] def transitLoss (s : State) : State := allTags.foldl abandon (allTags.foldl dropFlush s)

end State

end Sys2Proof.Machine
end

