-- ==== Sys2Proof/Machine/Segments.lean ====
section
/-! DEFINITION. The Segment Controllers: sending, answers, timers, rewinds, probes, faults and the segment
commands' effects (Chapters 6 and 7), with the meanings of the segment-link and segment-timer rows. -/

namespace Sys2Proof.Machine

/-- The last failure reason a failure leaves (R111). -/
def FailureReason.last (r : FailureReason) (code : Byte) : LastFailure :=
  match r with
  | .timeout => .timeout
  | .deviceRefused => .deviceRefused code
  | .segmentFaulted => .segmentFaulted
  | .segmentStopped => .segmentStopped

/-- The leg in the sent list under a leg tag (R108). -/
def SegCtl.sentUnder? (c : SegCtl) (tag : LegTag) : Option SentLeg := c.sent.find? (fun x => x.tag == tag)

/-- The sent list without the leg under a tag, which is DONE or FAILED: its slot is freed (R102). -/
def SegCtl.unsent (c : SegCtl) (tag : LegTag) : SegCtl :=
  { c with sent := c.sent.filter (fun x => x.tag != tag), risen := true }

/-- The conditions under which the head leg is sent (R103, R104). -/
def SegCtl.maySend (c : SegCtl) : Bool :=
  c.state.carries && !c.queue.isEmpty && decide (c.sent.length < c.sendWindow)
    && c.sent.all (fun x => x.tag != c.legTag)

namespace State

/-! ## Sending (R103, R106) -/

/-- The frame of a leg under a leg tag (R103, R106). -/
def legFrame? (s : State) (r : LegRef) (tag : LegTag) : Option DownFrame :=
  (s.leg? r).map fun (d, l) =>
    match d.request with
    | .write data _ => .legWrite tag (d.parts.get l.part).start (d.parts.wordsOf data l.part)
    | _ => .legRead tag (d.parts.get l.part).start (d.parts.get l.part).length

/-- The head leg is sent (R103). -/
def sendHead (s : State) (g : SegId) (r : LegRef) (rest : List LegRef) : State :=
  let c := s.seg g
  let s := s.setSeg g { c with
    queue := rest
    sent := c.sent ++ [{ ref := r, tag := c.legTag, timer := c.legTimeout }]
    legTag := c.legTag + 1
    line := c.line ++ (s.legFrame? r c.legTag).toList }
  (s.updateLeg r fun l => { l with state := .sent }).count (segCounter g .legsSent)

/-- A PROBE is sent under the next tag, with a fresh timer; the segment is PROBING (R120, R127). -/
def sendProbe (s : State) (g : SegId) (synced : Bool) : State :=
  let c := s.seg g
  s.setSeg g { c with
    state := .probing c.legTag c.legTimeout synced
    legTag := c.legTag + 1
    line := c.line ++ [.probe c.legTag] }

/-! ## Taking a segment out of service (R119, R132, R133) -/

/-- The emptied legs fail in order, each an outcome (R119). -/
def failLegs (s : State) (reason : FailureReason) (refs : List LegRef) : State :=
  refs.foldl (fun s r => s.legOutcome r (.failed reason)) s

/-- The segment leaves REJOINING or ACTIVE for another state (R119, R132): its lists are emptied and the
legs fail, then the waits on it move on. Its attention queue is emptied in the same step (R157); neither the
failures nor the waits touch it or its level. -/
def outOfService (s : State) (g : SegId) (target : SegState) (reason : FailureReason) : State :=
  let s := s.dropReports g
  let c := s.seg g
  let refs := c.sent.map SentLeg.ref ++ c.queue
  let s := s.setSeg g { c with
    state := target, sent := [], queue := []
    lastFailure := if refs.isEmpty then c.lastFailure else reason.last 0 }
  (s.failLegs reason refs).moveWaits g

/-- The segment enters a state that carries no legs, out of service if it carried legs (R130, R131, R133). -/
def leaveFor (s : State) (g : SegId) (target : SegState) (reason : FailureReason) : State :=
  if (s.seg g).state.carries then s.outOfService g target reason
  else s.setSeg g { s.seg g with state := target }

/-- The segment enters FAULTED (R133): level 0 is raised with it, faults is counted. -/
def fault (s : State) (g : SegId) : State :=
  ((s.leaveFor g .faulted .segmentFaulted).raise 0 (1#32 <<< g.val)).count (segCounter g .faults)

/-! ## Answers (R107 to R110) -/

def stray (s : State) (g : SegId) : State := s.count (segCounter g .strayFrames)

def corrupt (s : State) (g : SegId) : State := s.count (segCounter g .corruptFrames)

/-- The count of a LEG_DONE agrees with the leg it matches (R108). -/
def doneAgrees (s : State) (r : LegRef) (data : List Word) : Bool :=
  match s.leg? r with
  | some (d, l) =>
    match d.request with
    | .write _ _ => data.isEmpty
    | _ => data.length == (d.parts.get l.part).length
  | none => false

/-- The data a DONE leg keeps: the words for a read leg, none for a write leg (R108). -/
def doneData (s : State) (r : LegRef) (data : List Word) : Option (List Word) :=
  match s.leg? r with
  | some ({ request := .write _ _, .. }, _) => none
  | _ => some data

/-- A LEG_DONE arrives (R107, R108, R110). -/
def takeLegDone (s : State) (g : SegId) (tag : LegTag) (data : List Word) : State :=
  if (s.seg g).state.carries then
    match (s.seg g).sentUnder? tag with
    | some x =>
      if s.doneAgrees x.ref data then
        let kept := s.doneData x.ref data
        let s := s.setSeg g { (s.seg g).unsent tag with failures := 0 }
        ((s.count (segCounter g .legsDone)).legOutcome x.ref (.done kept)).offerRise g
      else s.corrupt g
    | none => s.stray g
  else s.stray g

/-- A LEG_REFUSED arrives (R107, R109, R110). -/
def takeLegRefused (s : State) (g : SegId) (tag : LegTag) (code : Byte) : State :=
  if (s.seg g).state.carries then
    match (s.seg g).sentUnder? tag with
    | some x =>
      let s := s.setSeg g
        { (s.seg g).unsent tag with failures := 0, lastFailure := .deviceRefused code }
      ((s.count (segCounter g .deviceRefusals)).legOutcome x.ref (.failed .deviceRefused)).offerRise g
    | none => s.stray g
  else s.stray g

/-- A PROBE_REPLY arrives (R107, R110, R120, R127). -/
def takeProbeReply (s : State) (g : SegId) (tag : LegTag) : State :=
  match (s.seg g).state with
  | .probing out _ synced =>
    if tag = out then
      s.setSeg g { s.seg g with state := if synced then .active else .rejoining, failures := 0 }
    else s.stray g
  | _ => s.stray g

/-- An ATTN_REPORT arrives (R107, R155). -/
def takeAttnReport (s : State) (g : SegId) (source : Byte) : State :=
  if (s.seg g).state.carries then s.takeReport g source else s.stray g

/-- An upstream frame arrives as raw words: a corrupt one is counted, an intact one is dispatched (R107). -/
def takeUpstream (s : State) (g : SegId) (words : List Word) : State :=
  match UpFrame.ofWords? words with
  | none => s.corrupt g
  | some (.legDone tag data) => s.takeLegDone g tag data
  | some (.legRefused tag code) => s.takeLegRefused g tag code
  | some (.probeReply tag) => s.takeProbeReply g tag
  | some (.attnReport source) => s.takeAttnReport g source

/-! ## Timers (R112 to R117, R128, R131) -/

/-- A rewind from the expired leg on (R116). `run` is that leg and the legs behind it in the sent list. Slots rise
only if a leg is withdrawn (R102). The withdrawn legs are taken as outcomes in send order: no rule gives their order,
which the order of the CANCELLED responses shows, so it is the model's choice (log 22). -/
def rewind (s : State) (g : SegId) (front run : List SentLeg) : State :=
  let refs := run.map SentLeg.ref
  let again := refs.filter s.resendable
  let gone := refs.filter (fun r => !s.resendable r)
  let s := s.setSeg g { s.seg g with sent := front, queue := again ++ (s.seg g).queue }
  let s := again.foldl (fun s r => s.updateLeg r fun l => { l with state := .queued }) s
  let s := s.count (segCounter g .rewinds)
  let s := if gone.isEmpty then s else s.rise g
  (gone.foldl (fun s r => s.legOutcome r .withdrawn) s).offerRise g

/-- The leg's expiry is its last: it fails with TIMEOUT (R117). -/
def failTimeout (s : State) (g : SegId) (x : SentLeg) : State :=
  let s := s.setSeg g { (s.seg g).unsent x.tag with lastFailure := .timeout }
  (s.legOutcome x.ref (.failed .timeout)).offerRise g

/-- The retry limit of the leg's window (R6, R115). -/
def retryLimit (s : State) (r : LegRef) : Nat :=
  match s.leg? r with
  | some (d, _) => (s.windowOf d).retryLimit.toNat
  | none => 0

/-- The leg's timeout count. -/
def timeoutsOf (s : State) (r : LegRef) : Nat :=
  match s.leg? r with
  | some (_, l) => l.timeouts
  | none => 0

/-- A leg timer's expiry (R115): counts rise, then fault, rewind or TIMEOUT. -/
def legExpired (s : State) (g : SegId) (x : SentLeg) : State :=
  let s := s.updateLeg x.ref fun l => { l with timeouts := l.timeouts + 1 }
  let s := s.setSeg g { s.seg g with failures := (s.seg g).failures + 1 }
  let s := s.count (segCounter g .legTimeouts)
  if (s.seg g).faultThreshold ≤ (s.seg g).failures then s.fault g
  else if s.resendable x.ref && s.timeoutsOf x.ref ≤ s.retryLimit x.ref then
    s.rewind g ((s.seg g).sent.takeWhile (fun y => y.tag != x.tag))
      ((s.seg g).sent.dropWhile (fun y => y.tag != x.tag))
  else s.failTimeout g x

/-- A probe timer's expiry (R128): the count rises, then the segment faults or probes again. -/
def probeExpired (s : State) (g : SegId) (synced : Bool) : State :=
  let s := s.setSeg g { s.seg g with failures := (s.seg g).failures + 1 }
  if (s.seg g).faultThreshold ≤ (s.seg g).failures then s.fault g else s.sendProbe g synced

/-! ## Segment commands (R125 to R131) -/

/-- SEGMENT_START's effect, where it is allowed (R126). -/
def startSegment (s : State) (g : SegId) (synced : Bool) : State :=
  (s.setSeg g { s.seg g with failures := 0 }).sendProbe g synced

/-- SEGMENT_SYNCED's effect (R129). -/
def syncSegment (s : State) (g : SegId) : State := s.setSeg g { s.seg g with state := .active }

/-- SEGMENT_STOP's effect (R130). -/
def stopSegment (s : State) (g : SegId) : State := s.leaveFor g .offline .segmentStopped

/-- SEGMENT_RESET's effect (R131). -/
def resetSegment (s : State) (g : SegId) : State :=
  s.leaveFor g (.resetting Config.lineResetTime) .segmentStopped

end State

/-- A Segment Controller when a management reset takes effect (R123, R138, R161). -/
def SegCtl.managementReset (c : SegCtl) : SegCtl :=
  { c with state := .offline, queue := [], sent := [], legTag := 0, failures := 0, attention := [], risen := false }

/-! ## Commands -/

/-- SEND_LEG (R103): the head leg is sent while the conditions hold; otherwise no send happens. -/
def execSendLeg (g : SegId) (s : State) : Host.Outcome State Fault Refusal :=
  .next <|
    match (s.seg g).queue with
    | r :: rest => if s.live && (s.seg g).maySend then (s.sendHead g r rest).finish s else s
    | [] => s

/-- FAILOVER_WAIT_SERVED (R86): a rise of a segment's free slots that has not been offered is offered to its
waiters. A step that raises them offers the rise itself, so it leaves none behind (log 7). -/
def execFailoverWaitServed (g : SegId) (s : State) : Host.Outcome State Fault Refusal :=
  .next (if s.live then (s.offerRise g).finish s else s)

/-- LEG_DONE (R108). -/
def execLegDone (g : SegId) (tag : LegTag) (data : List Word) (s : State) :
    Host.Outcome State Fault Refusal :=
  .next (if s.live then (s.takeLegDone g tag data).finish s else s)

/-- LEG_REFUSED (R109). -/
def execLegRefused (g : SegId) (tag : LegTag) (code : Byte) (s : State) :
    Host.Outcome State Fault Refusal :=
  .next (if s.live then (s.takeLegRefused g tag code).finish s else s)

/-- PROBE_REPLY (R127). -/
def execProbeReply (g : SegId) (tag : LegTag) (s : State) : Host.Outcome State Fault Refusal :=
  .next (if s.live then (s.takeProbeReply g tag).finish s else s)

/-- ATTN_REPORT (R155). -/
def execAttnReport (g : SegId) (source : Byte) (s : State) : Host.Outcome State Fault Refusal :=
  .next (if s.live then (s.takeAttnReport g source).finish s else s)

/-- CORRUPT_FRAME (R107). -/
def execCorruptFrame (g : SegId) (words : List Word) (s : State) : Host.Outcome State Fault Refusal :=
  .next (if s.live then (s.takeUpstream g words).finish s else s)

/-- LEG_TIMER_EXPIRY (R115): the timer of the leg in the sent list under the tag runs out. A leg that has
left the sent list has no timer, and no expiry happens (R112, R118). -/
def execLegTimerExpiry (g : SegId) (tag : LegTag) (s : State) : Host.Outcome State Fault Refusal :=
  .next <|
    match s.live, (s.seg g).sentUnder? tag with
    | true, some x =>
      match s.runOut? x.timer with
      | some s => (s.legExpired g x).finish s
      | none => s
    | _, _ => s

/-- PROBE_TIMEOUT (R128): the outstanding probe's timer runs out. -/
def execProbeTimeout (g : SegId) (s : State) : Host.Outcome State Fault Refusal :=
  .next <|
    match s.live, (s.seg g).state with
    | true, .probing _ n synced =>
      match s.runOut? n with
      | some s => (s.probeExpired g synced).finish s
      | none => s
    | _, _ => s

/-- LINE_RESET_EXPIRY (R131): the line reset timer runs out and the segment enters OFFLINE. -/
def execLineResetExpiry (g : SegId) (s : State) : Host.Outcome State Fault Refusal :=
  .next <|
    match s.live, (s.seg g).state with
    | true, .resetting n =>
      match s.runOut? n with
      | some s => (s.setSeg g { s.seg g with state := .offline }).finish s
      | none => s
    | _, _ => s

end Sys2Proof.Machine
end

