-- ==== Sys2Proof/Machine/Trunk.lean ====
section
/-! DEFINITION. The Trunk Port: link state, reception, taking frames, sending, trunk loss, the management
reset's effect, and power-on reset (Chapter 9, R191 to R193), with the meanings of their rows. -/

namespace Sys2Proof.Machine

/-- Signal, lock and idle pattern are all present (R164). -/
def Pins.quiet (p : Pins) : Bool := p.signal && p.lock && p.idle

namespace State

/-! ## Management reset takes effect (R192) -/

/-- Every block is reset in one step; banks, configuration, masks, interval, counters and link stay. -/
def applyManagementReset (s : State) : State :=
  let s := s.attentionReset
  { s with
    tt := Vector.replicate 32 .free
    wb.inflightA := 0
    wb.inflightB := 0
    sc := s.sc.map SegCtl.managementReset
    tp.rx := []
    tp.tx := []
    tp.held := 0
    cb.resetWaiting := false }

/-! ## Trunk loss (R172, R193) -/

/-- The link goes DOWN: both trunk queues are emptied, the Transit Table and the Attention Unit take the
loss, and a waiting reset takes effect at once. -/
def loseTrunk (s : State) : State :=
  let s := { s with
    tp.link := .down, tp.loss := none, tp.qualifying := none, tp.rx := [], tp.tx := [] }
  let s := (s.transitLoss.attentionLoss).count (partCounter .linkDownEvents)
  if s.cb.resetWaiting then s.applyManagementReset else s

/-! ## Reception (R167) -/

/-- A complete frame arrives while the link is UP. While signal or lock is lost it arrives damaged (R164). -/
def receive (s : State) (words : List Word) : State :=
  let s := s.count (partCounter .framesReceived)
  match (if s.tp.loss.isSome then none else RxFrame.ofWords? words) with
  | none => s.count (partCounter .framesCheckFailed)
  | some f =>
    if s.cb.resetWaiting then s
    else if Config.receiveCapacity ≤ s.tp.rx.length then s.count (partCounter .framesOverrun)
    else { s with tp.rx := s.tp.rx ++ [f] }

/-! ## Taking a frame (R169) -/

/-- The port may take the head frame: link UP, a free place, no reset waiting. -/
def mayTake (s : State) : Bool :=
  s.live && s.tp.link == .up && 0 < s.freePlaces && !s.cb.resetWaiting

/-- One frame leaves the buffer, one free place becomes held, and the frame's owner deals with it in the
same step. The head frame is another row's, or may not be taken: nothing happens. -/
def takeFrame (s : State) (row : TakenRow) (owner : State → RxFrame → State) : State :=
  match s.tp.rx with
  | f :: rest =>
    if s.mayTake && f.row == row then
      (owner { s with tp.rx := rest, tp.held := s.tp.held + 1 } f).finish s
    else s
  | [] => s

/-- The immediate answer of a taken frame, in the place held for it (R168). R37, R43, R170 and R181 give most answers
their empty sets, clear dissent flag and no data; that a CANCEL's own answers and a FLUSH's TAG_IN_USE have the same
contents is the model's choice (log 21). -/
def answer (s : State) (f : RxFrame) (status : Status) (detail : Word) (data : List Word := []) : State :=
  s.placeResponse
    { kind := f.kindCode, tag := f.tag, status := status, applied := 0, skipped := 0, dissent := false,
      detail := detail, data := data }

/-- A MALFORMED answer; it is counted (R198). -/
def answerMalformed (s : State) (f : RxFrame) : State :=
  (s.answer f .malformed 0).count (partCounter .framesMalformed)

/-- A control request whose tag is that of an open entry is answered TAG_IN_USE (R36, R181). -/
def withFreeTag (s : State) (f : RxFrame) (carryOut : State → State) : State :=
  if s.tagInUse f.tag then s.answer f .tagInUse 0 else carryOut s

/-! ## Sending (R171) -/

/-- The head frame's last word is sent: its place frees. -/
def sendFrame (s : State) (f : TxFrame) (rest : List TxFrame) : State :=
  { s with tp.tx := rest, tp.wire := s.tp.wire ++ [f] }

end State

/-! ## Commands -/

/-- PORN_ASSERTED (R180): every block is held in its power-on reset state. The other pins are inputs and
keep their levels. -/
def execPornAsserted (s : State) : Host.Outcome State Fault Refusal :=
  .next { State.reset with pins := { s.pins with porn := true }, pending := s.pending }

/-- PORN_RELEASED (R180): operation begins; the link is DOWN and qualifies once the receiver is ready. -/
def execPornReleased (s : State) : Host.Outcome State Fault Refusal :=
  .next <|
    if s.pins.porn then
      { s with
        pins.porn := false
        tp.qualifying := if s.pins.quiet then some Config.qualifyingTime else none }
    else s

/-- REFCLK_LOST (R180): the tick stops. -/
def execRefclkLost (s : State) : Host.Outcome State Fault Refusal :=
  .next { s with pins.refclk := false }

/-- REFCLK_RESTORED (R180): the tick resumes. -/
def execRefclkRestored (s : State) : Host.Outcome State Fault Refusal :=
  .next { s with pins.refclk := true }

/-- RECEIVER_LOCK_ACQUIRED (R164): while DOWN the qualifying time starts; while UP a loss time is
discarded. A receiver that had all three already has not newly acquired them. -/
def execReceiverLockAcquired (s : State) : Host.Outcome State Fault Refusal :=
  .next <|
    if s.pins.quiet then s
    else
      { s with
        pins := { s.pins with signal := true, lock := true, idle := true }
        tp.qualifying := if s.live && s.tp.link == .down then some Config.qualifyingTime
          else s.tp.qualifying
        tp.loss := none }

/-- RECEIVER_LOCK_LOST (R164): while UP a loss of signal or lock starts the loss time; while DOWN a loss of
signal or lock (opcode_table.json, RECEIVER_LOCK_LOST) or of the idle pattern discards the qualifying time. -/
def execReceiverLockLost (what : ReceiverLoss) (s : State) : Host.Outcome State Fault Refusal :=
  .next
    { s with
      pins := match what with
        | .signal => { s.pins with signal := false }
        | .lock => { s.pins with lock := false }
        | .idlePattern => { s.pins with idle := false }
      tp.qualifying := none
      tp.loss :=
        if s.live && s.tp.link == .up && what != .idlePattern && s.tp.loss.isNone then
          some Config.lossTime
        else s.tp.loss }

/-- LINK_QUALIFIED (R164, R173): the qualifying time runs out, the link is UP, and the delivery choice is
made (R160). -/
def execLinkQualified (s : State) : Host.Outcome State Fault Refusal :=
  .next <|
    match s.live, s.tp.link, s.tp.qualifying with
    | true, .down, some n =>
      match s.runOut? n with
      | some s => State.finish { s with tp.link := .up, tp.qualifying := none } s
      | none => s
    | _, _, _ => s

/-- TRUNK_LOSS (R172): the loss time runs out and the loss goes on. -/
def execTrunkLoss (s : State) : Host.Outcome State Fault Refusal :=
  .next <|
    match s.live, s.tp.link, s.tp.loss with
    | true, .up, some n =>
      match s.runOut? n with
      | some s => s.loseTrunk.finish s
      | none => s
    | _, _, _ => s

/-- FRAME_RECEIVED (R167): no frame is received while the link is DOWN (R165). -/
def execFrameReceived (words : List Word) (s : State) : Host.Outcome State Fault Refusal :=
  .next (if s.live && s.tp.link == .up then (s.receive words).finish s else s)

/-- MALFORMED_FRAME (R170). -/
def execMalformedFrame (s : State) : Host.Outcome State Fault Refusal :=
  .next (s.takeFrame .malformedFrame State.answerMalformed)

/-- FRAME_SENT (R171). The last word of a waiting reset's answer, which is the last frame of the queue,
brings the reset into effect in the same step (R174, R191). -/
def execFrameSent (s : State) : Host.Outcome State Fault Refusal :=
  .next <|
    match s.tp.tx with
    | f :: rest =>
      if s.live && s.tp.link == .up then
        let t := s.sendFrame f rest
        (if t.cb.resetWaiting && rest.isEmpty then t.applyManagementReset else t).finish s
      else s
    | [] => s

/-- MANAGEMENT_RESET_TAKES_EFFECT (R174, R192): the answer of the waiting reset, the one frame left in the
transmit queue, has been sent. -/
def execManagementResetTakesEffect (s : State) : Host.Outcome State Fault Refusal :=
  .next <|
    if s.live && s.cb.resetWaiting && s.tp.link == .up then
      match s.tp.tx with
      | [] => s.applyManagementReset.finish s
      | [f] => ((s.sendFrame f []).applyManagementReset).finish s
      | _ => s
    else s

end Sys2Proof.Machine
end

