-- ==== Sys2Proof/Machine/Requests.lean ====
section
/-! DEFINITION. READ, WRITE, FLUSH and CANCEL: admission, the barrier and the withdrawal (Chapter 3). -/

namespace Sys2Proof.Machine

/-- The outcome of the admission checks (R37). -/
inductive Admission where
  | refuse (status : Status) (detail : Word)
  | accept (d : DataEntry) (legged : List SegId)
  deriving DecidableEq, Repr

/-- Check 2: the count and the data (R38). -/
def contentsAgree (isWrite : Bool) (f : RxFrame) : Bool :=
  1 ≤ f.count && f.count ≤ Config.maxCount
    && (if isWrite then f.data.length == f.count else f.data.isEmpty)

namespace State

def isActive (s : State) (g : SegId) : Bool := (s.seg g).state == .active

/-- Write-set members eligible for a WRITE, ascending (R63). -/
def eligible (s : State) (w : WindowRecord) : List SegId :=
  allSegs.filter fun g => hasSeg w.writeSet g && (s.seg g).state.carries

/-- Check 6 for a WRITE (R39, R64, R65): the kind's fields and the legged segments, if enough are eligible. -/
def leggedForWrite (s : State) (w : WindowRecord) (data : List Word) : Option (Request × List SegId) :=
  let legged := s.eligible w
  let skipped := segsWhere fun g => hasSeg w.writeSet g && !(s.seg g).state.carries
  let passes := match w.policy with
    | .strict => skipped == 0
    | .degraded => !legged.isEmpty
  if passes then some (.write data skipped, legged) else none

/-- Check 6 for a READ (R39, R79, R90). -/
def leggedForRead (s : State) (w : WindowRecord) : Option (Request × List SegId) :=
  match w.readMode with
  | .preferred =>
    (nextMember w.members none s.isActive).map fun (pos, g) => (.preferred pos none, [g])
  | .vote =>
    let legged := allSegs.filter fun g => w.members.contains g && s.isActive g
    if 2 ≤ legged.length then some (.vote false, legged) else none

/-- A segment has room for legs: free slots, and no failover waits on it (R40). -/
def hasRoom (s : State) (g : SegId) (legs : Nat) : Bool := legs ≤ s.freeSlots g && !s.segmentHeld g

/-- The admission checks in order (R37). -/
def admission (s : State) (isWrite : Bool) (f : RxFrame) : Admission :=
  if s.tagInUse f.tag then .refuse .tagInUse 0
  else if !contentsAgree isWrite f then .refuse .malformed 0
  else match s.wb.decode isWrite f.address f.count with
    | .noWindow => .refuse .noWindow 0
    | .access w => .refuse .access (toWord w.val)
    | .boundary w => .refuse .boundary (toWord w.val)
    | .hit bank w _ parts =>
      let r := s.wb.record bank w
      match (if isWrite then s.leggedForWrite r f.data else s.leggedForRead r) with
      | none => .refuse .segmentUnavailable (toWord w.val)
      | some (request, legged) =>
        if legged.all (fun g => s.hasRoom g parts.count) then
          .accept { phase := .pending, bank := bank, window := w, parts := parts, request := request,
                    legs := [] } legged
        else .refuse .busy (toWord w.val)

/-- A refusal's answer, with its count (R37, R198). -/
def refuseRequest (s : State) (f : RxFrame) (status : Status) (detail : Word) : State :=
  let s := s.answer f status detail
  match status with
  | .malformed => s.count (partCounter .framesMalformed)
  | .busy => s.count (partCounter .requestsBusy)
  | _ => s

/-- Acceptance (R41): the entry opens with its legs, ascending by segment, and the bank's count rises. The
hold passes to the entry. -/
def openEntry (s : State) (t : Tag) (d : DataEntry) (legged : List SegId) : State :=
  legged.foldl (fun s g => s.createLegs t g) ((s.setEntry t (.data d)).countIn d.bank)

/-- A taken READ or WRITE (R37). -/
def admitRequest (isWrite : Bool) (s : State) (f : RxFrame) : State :=
  match s.admission isWrite f with
  | .refuse status detail => s.refuseRequest f status detail
  | .accept d legged => s.openEntry f.tag d legged

/-- A taken FLUSH (R43). -/
def takeFlush (s : State) (f : RxFrame) : State :=
  if s.tagInUse f.tag then s.answer f .tagInUse 0
  else match s.openTags with
    | [] => s.answer f .ok 0
    | tags => s.setEntry f.tag (.flushing tags tags.length)

/-- The segments whose queue holds a leg of the entry. -/
def queuedOn (s : State) (t : Tag) : List SegId :=
  allSegs.filter fun g => (s.seg g).queue.any (fun r => r.entry == t)

/-- CANCEL of a PENDING entry (R54): its QUEUED legs and wait go; answered and freed with no leg SENT, else
CANCELLING. Slots that rise are offered to waiters (R86). -/
def cancelPending (s : State) (t : Tag) : State :=
  let freed := s.queuedOn t
  let s := (s.withdrawQueued t).dropWait t
  let s := match s.entry t with
    | .data d =>
      if d.anySent then s.setEntry t (.data { d with phase := .cancelling })
      else s.answerEntry t (d.cancelledResponse t)
    | _ => s
  freed.foldl (fun s g => (s.rise g).offerRise g) s

/-- A taken CANCEL (R52 to R56). The target's response stands before the CANCEL's answer. -/
def takeCancel (s : State) (f : RxFrame) : State :=
  match s.entry f.tag with
  | .free => s.answer f .noSuchTag 0
  | .flushing barrier _ =>
    (s.answerEntry f.tag (flushResponse f.tag .cancelled barrier.length)).answer f .accepted 0
  | .data d =>
    match d.phase with
    | .pending => (s.cancelPending f.tag).answer f .accepted 0
    | .cancelling | .abandoned => s.answer f .accepted 0

end State

/-! ## Commands -/

/-- READ (R37). -/
def execRead (s : State) : Host.Outcome State Fault Refusal :=
  .next (s.takeFrame .read (State.admitRequest false))

/-- WRITE (R37). -/
def execWrite (s : State) : Host.Outcome State Fault Refusal :=
  .next (s.takeFrame .write (State.admitRequest true))

/-- FLUSH (R43). -/
def execFlush (s : State) : Host.Outcome State Fault Refusal :=
  .next (s.takeFrame .flush State.takeFlush)

/-- CANCEL (R52 to R56). -/
def execCancel (s : State) : Host.Outcome State Fault Refusal :=
  .next (s.takeFrame .cancel State.takeCancel)

end Sys2Proof.Machine
end

