-- ==== Sys2Proof/Machine/Control.lean ====
section
/-! DEFINITION. The Control Block: the control-space map, CREAD and CWRITE over spans, the commands and
RELEASE (Chapter 10, R163, R179). -/

namespace Sys2Proof.Machine

/-- The objects of the control-space map (R179). -/
inductive ControlObject where
  | shadowWord (w : WindowId) (j : Fin 4)
  | activeWord (w : WindowId) (j : Fin 4)
  | activeBank
  | generation
  | shadowState
  | inflight (which : Bank)
  | sendWindow (g : SegId)
  | legTimeout (g : SegId)
  | faultThreshold (g : SegId)
  | segmentState (g : SegId)
  | queuedLegs (g : SegId)
  | sentLegs (g : SegId)
  | failures (g : SegId)
  | lastFailure (g : SegId)
  | attentionSlot (g : SegId) (i : Fin 4)
  | attentionLength (g : SegId)
  | maskSet
  | requestedSet
  | inServiceSet
  | nextSequence
  | resendInterval
  | levelDetail (l : LevelId)
  | levelSequence (l : LevelId)
  | counter (i : Fin 49)
  | counterClear (i : Fin 49)
  | saturatedLow
  | saturatedHigh
  | vendorCode
  | partCode
  | revision
  | capacity
  | transit (t : Tag) (j : Fin 4)
  deriving DecidableEq, Repr

/-- The object at an offset of a segment's area (R179). -/
def segmentObject? (g : SegId) (o : Nat) : Option ControlObject :=
  match o with
  | 0x00 => some (.sendWindow g)
  | 0x01 => some (.legTimeout g)
  | 0x02 => some (.faultThreshold g)
  | 0x08 => some (.segmentState g)
  | 0x09 => some (.queuedLegs g)
  | 0x0A => some (.sentLegs g)
  | 0x0B => some (.failures g)
  | 0x0C => some (.lastFailure g)
  | 0x10 => some (.attentionSlot g 0)
  | 0x11 => some (.attentionSlot g 1)
  | 0x12 => some (.attentionSlot g 2)
  | 0x13 => some (.attentionSlot g 3)
  | 0x14 => some (.attentionLength g)
  | _ => none

/-- The control-space map (R179): the object at an address, none where it is unmapped. -/
def controlObject? (a : Nat) : Option ControlObject :=
  if h : a < 0x080 then some (.shadowWord ⟨a / 4, by omega⟩ ⟨a % 4, by omega⟩)
  else if h : a < 0x100 then some (.activeWord ⟨(a - 0x080) / 4, by omega⟩ ⟨a % 4, by omega⟩)
  else if a = 0x200 then some .activeBank
  else if a = 0x201 then some .generation
  else if a = 0x202 then some .shadowState
  else if a = 0x203 then some (.inflight .a)
  else if a = 0x204 then some (.inflight .b)
  else if h : 0x300 ≤ a ∧ a < 0x380 then segmentObject? ⟨(a - 0x300) / 0x20, by omega⟩ ((a - 0x300) % 0x20)
  else if a = 0x400 then some .maskSet
  else if a = 0x401 then some .requestedSet
  else if a = 0x402 then some .inServiceSet
  else if a = 0x403 then some .nextSequence
  else if a = 0x404 then some .resendInterval
  else if h : 0x408 ≤ a ∧ a < 0x410 then some (.levelDetail ⟨a - 0x408, by omega⟩)
  else if h : 0x410 ≤ a ∧ a < 0x418 then some (.levelSequence ⟨a - 0x410, by omega⟩)
  else if h : 0x500 ≤ a ∧ a < 0x531 then some (.counter ⟨a - 0x500, by omega⟩)
  else if h : 0x600 ≤ a ∧ a < 0x631 then some (.counterClear ⟨a - 0x600, by omega⟩)
  else if a = 0x640 then some .saturatedLow
  else if a = 0x641 then some .saturatedHigh
  else if a = 0x700 then some .vendorCode
  else if a = 0x701 then some .partCode
  else if a = 0x702 then some .revision
  else if a = 0x703 then some .capacity
  else if h : 0x800 ≤ a ∧ a < 0x880 then some (.transit ⟨(a - 0x800) / 4, by omega⟩ ⟨a % 4, by omega⟩)
  else none

/-- A word marked rw in the map (R179). -/
def ControlObject.writable : ControlObject → Bool
  | .shadowWord _ _ | .sendWindow _ | .legTimeout _ | .faultThreshold _ | .maskSet | .resendInterval => true
  | _ => false

/-- The segment whose configuration the word is (R135). -/
def ControlObject.configOf? : ControlObject → Option SegId
  | .sendWindow g | .legTimeout g | .faultThreshold g => some g
  | _ => none

/-- The written word is in the range of its object (R135, R150, R185). -/
def ControlObject.inRange (x : Word) : ControlObject → Bool
  | .sendWindow _ => 1 ≤ x.toNat && x.toNat ≤ 4
  | .legTimeout _ => 10 ≤ x.toNat && x.toNat ≤ 65535
  | .faultThreshold _ => 1 ≤ x.toNat && x.toNat ≤ 15
  | .resendInterval => x.toNat ≤ 255
  | _ => true

/-- The last failure reason as it is read (R179). -/
def LastFailure.word : LastFailure → Word
  | .none => 0
  | .timeout => 1
  | .deviceRefused code => 2#32 ||| (code.setWidth 32 <<< 8)
  | .segmentFaulted => 3
  | .segmentStopped => 4

/-- A word of the transit view (R179, R195). -/
def Entry.viewWord (e : Entry) (j : Fin 4) : Word :=
  match e with
  | .free => 0
  | .flushing barrier _ =>
    match j with
    | 0 => 2
    | 1 => 3
    | 2 => 0
    | 3 => toWord barrier.length
  | .data d =>
    match j with
    | 0 => match d.phase with
      | .pending => 1
      | .cancelling => 3
      | .abandoned => 4
    | 1 => match d.request with
      | .write _ _ => 2
      | _ => 1
    | 2 => (d.bank.code <<< 8) ||| toWord d.window.val
    | 3 => d.legSummary

namespace State

/-- Saturation flags of 32 counters from `base` on (R199). -/
def saturatedWord (s : State) (base : Nat) : Word :=
  (List.range 32).foldl
    (fun acc i => if (s.cb.saturated[base + i]?).getD false then acc ||| (1#32 <<< i) else acc) 0#32

/-- The word an object shows (R163, R179). -/
def readObject (s : State) : ControlObject → Word
  | .shadowWord w j => (s.wb.record s.wb.shadow w).word j
  | .activeWord w j => (s.wb.record s.wb.active w).word j
  | .activeBank => s.wb.active.code
  | .generation => s.wb.generation.setWidth 32
  | .shadowState => flagWord s.wb.draining
  | .inflight which => toWord (s.wb.inflight which)
  | .sendWindow g => toWord (s.seg g).sendWindow
  | .legTimeout g => toWord (s.seg g).legTimeout
  | .faultThreshold g => toWord (s.seg g).faultThreshold
  | .segmentState g => toWord (s.seg g).state.code
  | .queuedLegs g => toWord (s.seg g).queue.length
  | .sentLegs g => toWord (s.seg g).sent.length
  | .failures g => toWord (s.seg g).failures
  | .lastFailure g => (s.seg g).lastFailure.word
  | .attentionSlot g i => (((s.seg g).attention[i.val]?).getD 0).setWidth 32
  | .attentionLength g => toWord (s.seg g).attention.length
  | .maskSet => levelsWhere fun l => (s.level l).masked
  | .requestedSet => levelsWhere s.requested
  | .inServiceSet => s.inServiceSet
  | .nextSequence => s.au.nextSequence.setWidth 32
  | .resendInterval => toWord s.au.interval
  | .levelDetail l =>
    match (s.level l).latch, (s.level l).service with
    | some d, _ => d
    | none, some v => v.detail
    | none, none => 0
  | .levelSequence l =>
    match (s.level l).service with
    | some v => v.sequence.setWidth 32
    | none => 0
  | .counter i => s.counter i
  | .counterClear i => s.counter i
  | .saturatedLow => s.saturatedWord 0
  | .saturatedHigh => s.saturatedWord 32
  | .vendorCode => Config.vendorCode
  | .partCode => Config.partCode
  | .revision => Config.revision
  | .capacity => Config.capacityWord
  | .transit t j => (s.entry t).viewWord j

/-- What reading an object changes: a read-and-clear clears its counter and its flag (R201). -/
def readEffect (s : State) : ControlObject → State
  | .counterClear i =>
    { s with cb.counters := s.cb.counters.set i 0, cb.saturated := s.cb.saturated.set i false }
  | _ => s

/-- The write of one word of an accepted CWRITE (R186). -/
def writeObject (s : State) (x : Word) : ControlObject → State
  | .shadowWord w j => { s with wb := s.wb.writeShadow w j x }
  | .sendWindow g => s.setSeg g { s.seg g with sendWindow := x.toNat }
  | .legTimeout g => s.setSeg g { s.seg g with legTimeout := x.toNat }
  | .faultThreshold g => s.setSeg g { s.seg g with faultThreshold := x.toNat }
  | .maskSet =>
    { s with au.levels := s.au.levels.mapFinIdx fun i lv _ => { lv with masked := x.getLsbD i } }
  | .resendInterval => { s with au.interval := x.toNat }
  | _ => s

end State

/-! ## Spans (R182 to R186) -/

/-- The addresses of a frame's span, lowest first; it does not wrap (R182). -/
def RxFrame.span (f : RxFrame) : List Nat := (List.range f.count).map (f.address.toNat + ·)

/-- The lowest unmapped address of a span (R183). -/
def firstUnmapped? (span : List Nat) : Option Nat := span.find? fun a => (controlObject? a).isNone

/-- The objects of a mapped span. -/
def spanObjects (span : List Nat) : List ControlObject := span.filterMap controlObject?

/-- The lowest address of the span whose object passes the test. -/
def firstWhere? (span : List Nat) (test : ControlObject → Bool) : Option Nat :=
  span.find? fun a => match controlObject? a with
    | some o => test o
    | none => false

namespace State

/-- The tests of R185 in order: the status and lowest failing address of the first test that fails. -/
def cwriteRefusal? (s : State) (f : RxFrame) : Option (Status × Nat) :=
  let span := f.span
  match firstUnmapped? span with
  | some a => some (.noObject, a)
  | none =>
    match firstWhere? span (fun o => !o.writable) with
    | some a => some (.access, a)
    | none =>
      match firstWhere? span (fun o => match o with | .shadowWord _ _ => s.wb.draining | _ => false) with
      | some a => some (.bankBusy, a)
      | none =>
        match firstWhere? span (fun o => match o.configOf? with
          | some g => !(s.seg g).state.idle
          | none => false) with
        | some a => some (.refused, a)
        | none =>
          match (span.zip f.data).find? (fun (a, x) => match controlObject? a with
            | some o => !o.inRange x
            | none => false) with
          | some (a, _) => some (.refused, a)
          | none => none

/-- Every word of an accepted CWRITE is written (R186). -/
def writeSpan (s : State) (f : RxFrame) : State :=
  ((spanObjects f.span).zip f.data).foldl (fun s ox => s.writeObject ox.2 ox.1) s

/-- A taken CWRITE (R181 to R186). -/
def takeCwrite (s : State) (f : RxFrame) : State :=
  s.withFreeTag f fun s =>
    if f.cwriteWellFormed then
      match s.cwriteRefusal? f with
      | some (status, a) => s.answer f status (toWord a)
      | none => (s.writeSpan f).answer f .ok 0
    else s.answerMalformed f

/-- A taken CREAD (R181 to R184, R201). -/
def takeCread (s : State) (f : RxFrame) : State :=
  s.withFreeTag f fun s =>
    if f.creadWellFormed then
      match firstUnmapped? f.span with
      | some a => s.answer f .noObject (toWord a)
      | none =>
        let objects := spanObjects f.span
        (objects.foldl readEffect s).answer f .ok 0 (objects.map s.readObject)
    else s.answerMalformed f

/-! ## Commands (R188 to R191) -/

/-- A taken COMMIT (R26 to R28). -/
def takeCommit (s : State) (f : RxFrame) : State :=
  s.withFreeTag f fun s =>
    if s.wb.draining then s.answer f .bankBusy 0
    else match s.wb.firstInvalid s.wb.shadow with
      | some (w, c) => s.answer f .bankInvalid (toWord w.val ||| (toWord c <<< 8))
      | none =>
        let t := s.swapBanks
        t.answer f .ok (t.wb.generation.setWidth 32)

/-- A taken COPY_ACTIVE (R25). -/
def takeCopyActive (s : State) (f : RxFrame) : State :=
  s.withFreeTag f fun s =>
    if s.wb.draining then s.answer f .bankBusy 0
    else
      let t := { s with wb := s.wb.setBank s.wb.shadow (s.wb.bank s.wb.active) }
      t.answer f .ok (t.wb.generation.setWidth 32)

/-- A segment command (R125): carried out where its state allows it; the detail is the segment's state code
once it has been taken. The responses its failures bring are placed first (R189). -/
def segmentCommand (s : State) (f : RxFrame) (allowed : SegState → Bool) (effect : State → State) : State :=
  s.withFreeTag f fun s =>
    let g := f.operandSegment
    if allowed (s.seg g).state then
      let t := effect s
      t.answer f .ok (toWord (t.seg g).state.code)
    else s.answer f .refused (toWord (s.seg g).state.code)

/-- A taken SEGMENT_START (R125, R126). -/
def takeStart (s : State) (f : RxFrame) : State :=
  s.segmentCommand f SegState.idle fun s => s.startSegment f.operandSegment f.operandSynced

/-- A taken SEGMENT_STOP (R125, R130). -/
def takeStop (s : State) (f : RxFrame) : State :=
  s.segmentCommand f
    (fun st => match st with
      | .offline | .resetting _ => false
      | _ => true)
    fun s => s.stopSegment f.operandSegment

/-- A taken SEGMENT_SYNCED (R125, R129). -/
def takeSynced (s : State) (f : RxFrame) : State :=
  s.segmentCommand f (fun st => st == .rejoining) fun s => s.syncSegment f.operandSegment

/-- A taken SEGMENT_RESET (R125, R131). -/
def takeReset (s : State) (f : RxFrame) : State :=
  s.segmentCommand f
    (fun st => match st with
      | .resetting _ => false
      | _ => true)
    fun s => s.resetSegment f.operandSegment

/-- A taken MANAGEMENT_RESET (R174, R191): the answer is placed, a reset waits, and the frames still in the
receive buffer are discarded. -/
def takeManagementReset (s : State) (f : RxFrame) : State :=
  s.withFreeTag f fun s =>
    let s := s.answer f .ok 0
    { s with cb.resetWaiting := true, tp.rx := [] }

/-- A COMMAND with an unknown code (R188). -/
def takeUnknownCommand (s : State) (f : RxFrame) : State := s.withFreeTag f fun s => s.answerMalformed f

/-- A taken RELEASE (R151 to R153). The detail is the in-service set before the delivery choice (log 8). -/
def takeRelease (s : State) (f : RxFrame) : State :=
  s.withFreeTag f fun s =>
    match f.releaseLevel? with
    | none => s.answerMalformed f
    | some l =>
      match (s.level l).service with
      | some v =>
        if v.sequence = f.releaseSequence then
          let t := s.releaseLevel l
          t.answer f .ok t.inServiceSet
        else s.answer f .stale s.inServiceSet
      | none => s.answer f .stale s.inServiceSet

end State

/-! ## Commands -/

/-- SHADOW_WINDOW_WRITE (R24). -/
def execShadowWindowWrite (s : State) : Host.Outcome State Fault Refusal :=
  .next (s.takeFrame .shadowWindowWrite State.takeCwrite)

/-- SEGMENT_CONFIG_WRITE (R135). -/
def execSegmentConfigWrite (s : State) : Host.Outcome State Fault Refusal :=
  .next (s.takeFrame .segmentConfigWrite State.takeCwrite)

/-- MASK_SET_WRITE (R143). -/
def execMaskSetWrite (s : State) : Host.Outcome State Fault Refusal :=
  .next (s.takeFrame .maskSetWrite State.takeCwrite)

/-- RESEND_INTERVAL_WRITE (R150). -/
def execResendIntervalWrite (s : State) : Host.Outcome State Fault Refusal :=
  .next (s.takeFrame .resendIntervalWrite State.takeCwrite)

/-- CWRITE (R182, R183, R185): every other CWRITE; it names an unmapped or read-only word, or its count is
wrong. -/
def execCwrite (s : State) : Host.Outcome State Fault Refusal :=
  .next (s.takeFrame .cwrite State.takeCwrite)

/-- COUNTER_READ_AND_CLEAR (R201), and every CREAD (R184; log 3). -/
def execCounterReadAndClear (s : State) : Host.Outcome State Fault Refusal :=
  .next (s.takeFrame .counterReadAndClear State.takeCread)

/-- COMMIT (R26 to R28). -/
def execCommit (s : State) : Host.Outcome State Fault Refusal :=
  .next (s.takeFrame .commit State.takeCommit)

/-- COPY_ACTIVE (R25). -/
def execCopyActive (s : State) : Host.Outcome State Fault Refusal :=
  .next (s.takeFrame .copyActive State.takeCopyActive)

/-- SEGMENT_START (R126). -/
def execSegmentStart (s : State) : Host.Outcome State Fault Refusal :=
  .next (s.takeFrame .segmentStart State.takeStart)

/-- SEGMENT_STOP (R130). -/
def execSegmentStop (s : State) : Host.Outcome State Fault Refusal :=
  .next (s.takeFrame .segmentStop State.takeStop)

/-- SEGMENT_SYNCED (R129). -/
def execSegmentSynced (s : State) : Host.Outcome State Fault Refusal :=
  .next (s.takeFrame .segmentSynced State.takeSynced)

/-- SEGMENT_RESET (R131). -/
def execSegmentReset (s : State) : Host.Outcome State Fault Refusal :=
  .next (s.takeFrame .segmentReset State.takeReset)

/-- MANAGEMENT_RESET (R191). -/
def execManagementReset (s : State) : Host.Outcome State Fault Refusal :=
  .next (s.takeFrame .managementReset State.takeManagementReset)

/-- UNKNOWN_COMMAND_CODE (R188). -/
def execUnknownCommandCode (s : State) : Host.Outcome State Fault Refusal :=
  .next (s.takeFrame .unknownCommandCode State.takeUnknownCommand)

/-- RELEASE (R151, R152). -/
def execRelease (s : State) : Host.Outcome State Fault Refusal :=
  .next (s.takeFrame .release State.takeRelease)

end Sys2Proof.Machine
end

