-- ==== Sys2Proof/Machine/Dispatch.lean ====
section
/-! DEFINITION. One arm per command. -/

namespace Sys2Proof.Machine

def exec (i : Instr) (s : State) : Host.Outcome State Fault Refusal :=
  match i with
  | .pornAsserted => Sys2Proof.Machine.execPornAsserted s
  | .pornReleased => Sys2Proof.Machine.execPornReleased s
  | .refclkLost => Sys2Proof.Machine.execRefclkLost s
  | .refclkRestored => Sys2Proof.Machine.execRefclkRestored s
  | .receiverLockAcquired => Sys2Proof.Machine.execReceiverLockAcquired s
  | .receiverLockLost what => Sys2Proof.Machine.execReceiverLockLost what s
  | .linkQualified => Sys2Proof.Machine.execLinkQualified s
  | .trunkLoss => Sys2Proof.Machine.execTrunkLoss s
  | .frameReceived words => Sys2Proof.Machine.execFrameReceived words s
  | .malformedFrame => Sys2Proof.Machine.execMalformedFrame s
  | .read => Sys2Proof.Machine.execRead s
  | .write => Sys2Proof.Machine.execWrite s
  | .flush => Sys2Proof.Machine.execFlush s
  | .cancel => Sys2Proof.Machine.execCancel s
  | .shadowWindowWrite => Sys2Proof.Machine.execShadowWindowWrite s
  | .segmentConfigWrite => Sys2Proof.Machine.execSegmentConfigWrite s
  | .maskSetWrite => Sys2Proof.Machine.execMaskSetWrite s
  | .resendIntervalWrite => Sys2Proof.Machine.execResendIntervalWrite s
  | .cwrite => Sys2Proof.Machine.execCwrite s
  | .counterReadAndClear => Sys2Proof.Machine.execCounterReadAndClear s
  | .commit => Sys2Proof.Machine.execCommit s
  | .copyActive => Sys2Proof.Machine.execCopyActive s
  | .segmentStart => Sys2Proof.Machine.execSegmentStart s
  | .segmentStop => Sys2Proof.Machine.execSegmentStop s
  | .segmentSynced => Sys2Proof.Machine.execSegmentSynced s
  | .segmentReset => Sys2Proof.Machine.execSegmentReset s
  | .managementReset => Sys2Proof.Machine.execManagementReset s
  | .unknownCommandCode => Sys2Proof.Machine.execUnknownCommandCode s
  | .release => Sys2Proof.Machine.execRelease s
  | .frameSent => Sys2Proof.Machine.execFrameSent s
  | .managementResetTakesEffect => Sys2Proof.Machine.execManagementResetTakesEffect s
  | .sendLeg g => Sys2Proof.Machine.execSendLeg g s
  | .failoverWaitServed g => Sys2Proof.Machine.execFailoverWaitServed g s
  | .legDone g tag data => Sys2Proof.Machine.execLegDone g tag data s
  | .legRefused g tag code => Sys2Proof.Machine.execLegRefused g tag code s
  | .probeReply g tag => Sys2Proof.Machine.execProbeReply g tag s
  | .attnReport g source => Sys2Proof.Machine.execAttnReport g source s
  | .corruptFrame g words => Sys2Proof.Machine.execCorruptFrame g words s
  | .legTimerExpiry g tag => Sys2Proof.Machine.execLegTimerExpiry g tag s
  | .probeTimeout g => Sys2Proof.Machine.execProbeTimeout g s
  | .lineResetExpiry g => Sys2Proof.Machine.execLineResetExpiry g s
  | .attentionDelivery => Sys2Proof.Machine.execAttentionDelivery s
  | .resendDeadlineExpiry level => Sys2Proof.Machine.execResendDeadlineExpiry level s
  | .deferredResend => Sys2Proof.Machine.execDeferredResend s

end Sys2Proof.Machine
end

