-- ==== Sys2Proof/Safety.lean ====
section
/-! DEFINITION. What the statements about the part are made of: the conditions of a taken frame, the fixed
contents of an answer, and the invariants the spec states "at every moment". -/

namespace Sys2Proof.Machine

/-- The head frame of the receive buffer is `f`, with `rest` behind it; it may be taken (R169) and it is the
row's. -/
structure Takes (s : State) (row : TakenRow) (f : RxFrame) (rest : List RxFrame) : Prop where
  head : s.tp.rx = f :: rest
  live : s.pins.porn = false
  up : s.tp.link = .up
  room : 0 < s.freePlaces
  noReset : s.cb.resetWaiting = false
  row : f.row = row

/-- The frame answers a request with this status, detail and data, and with empty sets (R181). -/
def RxFrame.reply (f : RxFrame) (status : Status) (detail : Word) (data : List Word := []) : Response :=
  { kind := f.kindCode, tag := f.tag, status := status, applied := 0, skipped := 0, dissent := false,
    detail := detail, data := data }

/-- The commands that change an input pin (R164, R180). -/
inductive PinCommand : Instr → Prop where
  | pornAsserted : PinCommand .pornAsserted
  | pornReleased : PinCommand .pornReleased
  | refclkLost : PinCommand .refclkLost
  | refclkRestored : PinCommand .refclkRestored
  | lockAcquired : PinCommand .receiverLockAcquired
  | lockLost (what : ReceiverLoss) : PinCommand (.receiverLockLost what)

/-- READ and WRITE, their rows, and whether they write. -/
inductive DataCommand : Instr → TakenRow → Bool → Prop where
  | read : DataCommand .read .read false
  | write : DataCommand .write .write true

/-- The five CWRITE commands and their rows. -/
inductive CwriteCommand : Instr → TakenRow → Prop where
  | shadow : CwriteCommand .shadowWindowWrite .shadowWindowWrite
  | config : CwriteCommand .segmentConfigWrite .segmentConfigWrite
  | masks : CwriteCommand .maskSetWrite .maskSetWrite
  | interval : CwriteCommand .resendIntervalWrite .resendIntervalWrite
  | other : CwriteCommand .cwrite .cwrite

/-- The control requests and their rows (R181). -/
inductive ControlCommand : Instr → TakenRow → Prop where
  | cwrite {c : Instr} {row : TakenRow} (h : CwriteCommand c row) : ControlCommand c row
  | cread : ControlCommand .counterReadAndClear .counterReadAndClear
  | commit : ControlCommand .commit .commit
  | copyActive : ControlCommand .copyActive .copyActive
  | segmentStart : ControlCommand .segmentStart .segmentStart
  | segmentStop : ControlCommand .segmentStop .segmentStop
  | segmentSynced : ControlCommand .segmentSynced .segmentSynced
  | segmentReset : ControlCommand .segmentReset .segmentReset
  | managementReset : ControlCommand .managementReset .managementReset
  | unknown : ControlCommand .unknownCommandCode .unknownCommandCode
  | release : ControlCommand .release .release

/-- `a` is the lowest address of a span that has the property (R183, R185). -/
def Lowest (span : List Nat) (p : Nat → Prop) (a : Nat) : Prop := a ∈ span ∧ p a ∧ ∀ b ∈ span, b < a → ¬ p b

/-- The bits of a record word that fields name (R178). -/
def WindowRecord.fieldMask : Fin 4 → Word
  | 0 => 0xBE071F3F
  | 1 => 0xFFFFFFFF
  | 2 => 0x00000FFF
  | 3 => 0x0000FF07

/-- The detail field of a segment: bits 8s + 7 to 8s (R176). -/
def Response.detailField (r : Response) (g : SegId) : Nat := (r.detail.extractLsb' (8 * g.val) 8).toNat

namespace DataEntry

/-- The code of the first FAILED leg on a segment in leg-list order, else 0 (R71, R176). -/
def firstReason (d : DataEntry) (g : SegId) : Nat :=
  match (d.legs.findSome? fun l => if l.seg = g then l.state.reason? else none : Option FailureReason) with
  | none => 0
  | some .timeout => 1
  | some .deviceRefused => 2
  | some .segmentFaulted => 3
  | some .segmentStopped => 4

/-- Every part has a DONE leg on the segment (R55, R68, R91). -/
def AppliedTo (d : DataEntry) (g : SegId) : Prop :=
  ∀ p ∈ d.parts.numbers, ∃ l ∈ d.legs, l.seg = g ∧ l.part = p ∧ l.state.isDone = true

/-- The words a segment returned, part 1 before part 2 (R96). -/
def wordsFrom (d : DataEntry) (g : SegId) : List Word :=
  d.parts.numbers.flatMap fun p =>
    match d.legs.find? (fun l => decide (l.seg = g ∧ l.part = p ∧ l.state.isDone = true)) with
    | some { state := .done (some words), .. } => words
    | _ => []

end DataEntry

namespace State

/-- The state once the head frame has left the receive buffer and its answer's place is held (R169). -/
def taken (s : State) (rest : List RxFrame) : State :=
  { s with tp.rx := rest, tp.held := s.tp.held + 1 }

/-- No attention frame can be placed at the end of the step: no level is deliverable and no resend waits. -/
def Quiet (s : State) : Prop :=
  s.deliveryChoice = none ∧ ∀ l v, (s.level l).service = some v → v.deadline ≠ .waiting

/-! ## Invariants -/

/-- A counter is in the saturated set exactly while it holds its largest value (R199). -/
def SaturationExact (s : State) : Prop :=
  ∀ i : Fin 49, s.cb.saturated[i] = true ↔ s.counter i = Config.counterMax

/-- The open READ and WRITE entries decoded under a bank. -/
def openUnder (s : State) (which : Bank) : Nat :=
  allTags.countP fun t =>
    match s.entry t with
    | .data d => d.bank == which
    | _ => false

/-- Each bank's in-flight count equals the number of open READ and WRITE entries decoded under it (R21). -/
def InflightExact (s : State) : Prop := ∀ which, s.wb.inflight which = s.openUnder which

/-- Between steps the held places are those of the open entries, and occupied and held places together never
exceed the 64 (R168); the receive buffer holds at most 8 frames (R167). -/
def PlacesKept (s : State) : Prop :=
  s.tp.held = s.openTags.length ∧ s.tp.tx.length + s.tp.held ≤ Config.transmitPlaces
    ∧ s.tp.rx.length ≤ Config.receiveCapacity

/-- The active bank holds only valid records (R18). -/
def ActiveValid (s : State) : Prop := ∀ w, (s.wb.record s.wb.active w).valid = true

/-- A segment's slots, window and leg tags (R100, R102, R104, R124). -/
structure SlotsKept (c : SegCtl) : Prop where
  slots : c.queue.length + c.sent.length ≤ Config.slots
  window : c.sent.length ≤ c.sendWindow
  tags : (c.sent.map SentLeg.tag).Nodup
  idle : c.state.carries = false → c.queue = [] ∧ c.sent = []

/-- A segment and the attention level of its devices: the attention queue holds at most 4 source ids with no id
twice, whenever it is not empty the level is requested or in service (R155), and it is empty while the segment is
neither ACTIVE nor REJOINING (R153). -/
structure ReportsServed (c : SegCtl) (lv : Level) : Prop where
  few : c.attention.length ≤ Config.attentionCapacity
  once : c.attention.Nodup
  served : c.attention ≠ [] → lv.latch.isSome = true ∨ lv.service.isSome = true
  idle : c.state.carries = false → c.attention = []

/-- A FLUSH waits for open entries other than itself, none twice, and for no more than at its acceptance, of
which there were 1 to 31 (R34, R43, R51). -/
def BarriersOpen (s : State) : Prop :=
  ∀ t barrier n, s.entry t = .flushing barrier n →
    barrier.Nodup ∧ t ∉ barrier ∧ (∀ u ∈ barrier, s.tagInUse u = true) ∧ barrier.length ≤ n ∧ 1 ≤ n ∧ n ≤ 31

/-- Where the leg records of the open entries stand (R44). -/
structure LegsPlaced (s : State) : Prop where
  /-- A leg in a segment's queue is a QUEUED leg of an open entry on that segment. -/
  queued : ∀ g, ∀ r ∈ (s.seg g).queue, ∃ d l, s.leg? r = some (d, l) ∧ l.seg = g ∧ l.state = .queued
  /-- A leg in a segment's sent list is a SENT leg of an open entry on that segment. -/
  sent : ∀ g, ∀ x ∈ (s.seg g).sent, ∃ d l, s.leg? x.ref = some (d, l) ∧ l.seg = g ∧ l.state = .sent
  /-- No list holds a leg twice. -/
  once : ∀ g, ((s.seg g).queue ++ (s.seg g).sent.map SentLeg.ref).Nodup
  /-- Every QUEUED or SENT leg of an open entry stands in its segment's list. -/
  all : ∀ r d l, s.leg? r = some (d, l) →
    (l.state = .queued → r ∈ (s.seg l.seg).queue) ∧
    (l.state = .sent → r ∈ (s.seg l.seg).sent.map SentLeg.ref)

/-- A CANCELLING or ABANDONED entry has no QUEUED leg and no failover wait (R54, R57). -/
def Withdrawn (s : State) : Prop :=
  ∀ t d, s.entry t = .data d → d.phase ≠ .pending →
    d.waiting = none ∧ ∀ l ∈ d.legs, l.state ≠ .queued

/-- The configuration values stay in their ranges (R135, R150). -/
def ConfigInRange (s : State) : Prop :=
  (∀ g, (1 ≤ (s.seg g).sendWindow ∧ (s.seg g).sendWindow ≤ 4)
    ∧ (10 ≤ (s.seg g).legTimeout ∧ (s.seg g).legTimeout ≤ 65535)
    ∧ 1 ≤ (s.seg g).faultThreshold ∧ (s.seg g).faultThreshold ≤ 15)
  ∧ s.au.interval ≤ 255

end State

end Sys2Proof.Machine
end

