-- ==== Sys2Proof/Certificates/Slice0/Obligations.lean ====
section
/-! DEFINITION. The statements about the model. A statement gives the next state as an equation, so that whatever
the equation does not change is stated unchanged. `State.finish` is the end of a step: waiting resends and the
delivery choice; `EndOfStep` states what it does. -/

open Sys2Proof Sys2Proof.Machine

/-! ## Steps, time, pins -/

/-- A step with a command at the front of the queue is that command's effect on the state with the queue's rest. -/
def Obligations.StepRunsFrontCommand : Prop :=
  ∀ (c : Instr) (s : State), step { s with pending := c :: s.pending } = exec c s

/-- On an empty queue 1 µs passes for every running timer and nothing else changes; while PORN is asserted or the
clock is absent nothing happens (R112, R149, R164, R180). That an empty queue stands for a tick is the model's choice
(log 4). -/
def Obligations.EmptyQueueTicks : Prop :=
  ∀ s : State, s.pending = [] →
    (s.pins.porn = true ∨ s.pins.refclk = false → step s = .next s) ∧
    (s.pins.porn = false → s.pins.refclk = true → ∃ t, step s = .next t ∧
      t.pins = s.pins ∧ t.wb = s.wb ∧ t.tt = s.tt ∧ t.cb = s.cb ∧ t.pending = [] ∧
      t.tp = { s.tp with qualifying := s.tp.qualifying.map (· - 1), loss := s.tp.loss.map (· - 1) } ∧
      t.au = { s.au with levels := t.au.levels } ∧
      (∀ l, t.level l = { s.level l with service := (s.level l).service.map fun v =>
        { v with deadline := match v.deadline with
          | .running n => .running (n - 1)
          | d => d } }) ∧
      ∀ g, t.seg g = { s.seg g with
        state := match (s.seg g).state with
          | .resetting n => .resetting (n - 1)
          | .probing tag n y => .probing tag (n - 1) y
          | st => st
        sent := (s.seg g).sent.map fun x => { x with timer := x.timer - 1 } })

/-- Every command is answered with a next state, and none touches the queue of commands. That commands wait in a
queue, and that a command whose event cannot happen is answered with the unchanged state, is the model's choice
(log 2, log 3). -/
def Obligations.EveryCommandCompletes : Prop :=
  ∀ (c : Instr) (s : State), ∃ t, exec c s = .next t ∧ t.pending = s.pending

/-- While PORN is asserted the part is held in its power-on reset state whatever arrives (R180); its release starts
operation with the link DOWN; while the clock is absent no timer runs and none expires with time left. The tick on an
empty queue is the model's choice (log 4), and so is the unchanged state where a command's event cannot happen: PORN
released while it is not asserted, an expiry of a timer that is held with time left (log 3). That the pins go on
changing under PORN, and that its release starts the 100 µs at once when the receiver is ready, is its reading
(log 20). -/
def Obligations.PowerOnResetAndClock : Prop :=
  (∀ s, exec .pornAsserted s
    = .next { State.reset with pins := { s.pins with porn := true }, pending := s.pending }) ∧
  (∀ (p : Pins) (q : List Instr) (c : Instr), p.porn = true → c ≠ .pornReleased →
    ∃ p' : Pins, p'.porn = true ∧
      exec c { State.reset with pins := p, pending := q } = .next { State.reset with pins := p', pending := q }) ∧
  (∀ p : Pins, p.porn = true → step { State.reset with pins := p } = .next { State.reset with pins := p }) ∧
  (∀ g, (State.reset.seg g).lineReset = false ∧ (State.reset.seg g).state = .offline) ∧
  (∀ (p : Pins) (q : List Instr), p.porn = true →
    exec .pornReleased { State.reset with pins := p, pending := q }
      = .next { State.reset with
          pins := { p with porn := false }
          pending := q
          tp.qualifying := if p.signal = true ∧ p.lock = true ∧ p.idle = true then some 100 else none }) ∧
  (∀ s, s.pins.porn = false → exec .pornReleased s = .next s) ∧
  (∀ s, exec .refclkLost s = .next { s with pins.refclk := false }) ∧
  (∀ s, exec .refclkRestored s = .next { s with pins.refclk := true }) ∧
  (∀ s, s.pending = [] → s.pins.porn = false → s.pins.refclk = true → step s = .next (s.elapse 1)) ∧
  ∀ s, s.pins.refclk = false →
    (s.pending = [] → step s = .next s) ∧
    (∀ n, s.tp.qualifying = some n → n ≠ 0 → exec .linkQualified s = .next s) ∧
    (∀ n, s.tp.loss = some n → n ≠ 0 → exec .trunkLoss s = .next s) ∧
    (∀ g tag x, (s.seg g).sentUnder? tag = some x → x.timer ≠ 0 → exec (.legTimerExpiry g tag) s = .next s) ∧
    (∀ g tag n y, (s.seg g).state = .probing tag n y → n ≠ 0 → exec (.probeTimeout g) s = .next s) ∧
    (∀ g n, (s.seg g).state = .resetting n → n ≠ 0 → exec (.lineResetExpiry g) s = .next s) ∧
    ∀ l v n, (s.level l).service = some v → v.deadline = .running n → n ≠ 0 →
      exec (.resendDeadlineExpiry l) s = .next s

/-- The state after power-on reset (R1, R19, R20, R33, R60, R122, R135, R139, R162, R164, R168, R191, R203). The pins,
the queue of commands and the records of sent frames are the model's (log 1, 2, 5) and not stated. -/
def Obligations.ResetValues : Prop :=
  let s := State.reset
  s.tp.link = .down ∧ s.tp.qualifying = none ∧ s.tp.loss = none ∧ s.tp.rx = [] ∧ s.tp.tx = [] ∧ s.freePlaces = 64 ∧
  s.wb.active = .a ∧ s.wb.generation = 0 ∧ s.wb.inflightA = 0 ∧ s.wb.inflightB = 0 ∧ s.wb.draining = false ∧
  (∀ which w, s.wb.record which w = WindowRecord.zero) ∧
  (∀ j, WindowRecord.zero.word j = 0) ∧
  (∀ address, s.wb.lookup address = none) ∧
  (∀ t, s.entry t = .free) ∧
  (∀ g, (s.seg g).state = .offline ∧ (s.seg g).queue = [] ∧ (s.seg g).sent = [] ∧ (s.seg g).legTag = 0 ∧
    (s.seg g).failures = 0 ∧ (s.seg g).lastFailure = .none ∧ (s.seg g).sendWindow = 2 ∧
    (s.seg g).legTimeout = 1000 ∧ (s.seg g).faultThreshold = 4 ∧ (s.seg g).attention = []) ∧
  (∀ l, s.level l = { latch := none, masked := true, service := none }) ∧
  s.au.nextSequence = 0 ∧ s.au.interval = 20 ∧
  (∀ i, s.counter i = 0 ∧ s.cb.saturated[i] = false) ∧ s.cb.resetWaiting = false

/-! ## The trunk link -/

/-- The receiver's pins (R164). All three present anew: while DOWN the qualifying time of 100 µs starts, while UP a
loss time is discarded. A loss while UP starts the 50 µs of loss time, a loss while DOWN discards the qualifying time.
That a lost idle pattern starts no loss time while UP is the model's reading (log 16), and that RECEIVER_LOCK_ACQUIRED
with all three already present changes nothing, an event that cannot happen, is its choice (log 3). -/
def Obligations.ReceiverPins : Prop :=
  (∀ s, s.pins.signal = true → s.pins.lock = true → s.pins.idle = true →
    exec .receiverLockAcquired s = .next s) ∧
  (∀ s, ¬ (s.pins.signal = true ∧ s.pins.lock = true ∧ s.pins.idle = true) → s.pins.porn = false →
    exec .receiverLockAcquired s = .next { s with
      pins.signal := true, pins.lock := true, pins.idle := true, tp.loss := none
      tp.qualifying := match s.tp.link with
        | .down => some 100
        | .up => s.tp.qualifying }) ∧
  (∀ s what, s.pins.porn = false →
    exec (.receiverLockLost what) s = .next { s with
      pins := match what with
        | .signal => { s.pins with signal := false }
        | .lock => { s.pins with lock := false }
        | .idlePattern => { s.pins with idle := false }
      tp.qualifying := none
      tp.loss := if s.tp.link = .up ∧ what ≠ .idlePattern ∧ s.tp.loss = none then some 50 else s.tp.loss })

/-- The link comes UP when the qualifying time has run out, and the delivery choice is made (R160, R164, R173). That
time left passes for every timer (log 4), and that nothing changes where the link is UP or no qualifying time runs
(log 3), is the model's choice. -/
def Obligations.LinkQualified : Prop :=
  (∀ s n, s.pins.porn = false → s.tp.link = .down → s.tp.qualifying = some n → (n = 0 ∨ s.pins.refclk = true) →
    exec .linkQualified s
      = .next (State.finish { s.elapse n with tp.link := .up, tp.qualifying := none } (s.elapse n))) ∧
  ∀ s, s.pins.porn = true ∨ s.tp.link = .up ∨ s.tp.qualifying = none → exec .linkQualified s = .next s

/-- Trunk loss (R172): the link goes DOWN, both queues are emptied, the Transit Table and the Attention Unit take the
loss, it is counted, and a reset that waits takes effect in the same step (R193). No attention frame is placed. That
loss time left passes for every timer (log 4), and that nothing changes where no loss time runs (log 3), is the model's
choice. -/
def Obligations.TrunkLoss : Prop :=
  (∀ s n, s.pins.porn = false → s.tp.link = .up → s.tp.loss = some n → (n = 0 ∨ s.pins.refclk = true) →
    let e := s.elapse n
    let d := { e with tp.link := .down, tp.loss := none, tp.qualifying := none, tp.rx := [], tp.tx := [] }
    let t := (d.transitLoss.attentionLoss).count (partCounter .linkDownEvents)
    exec .trunkLoss s = .next (if s.cb.resetWaiting = true then t.applyManagementReset else t)) ∧
  ∀ s, s.pins.porn = true ∨ s.tp.link = .down ∨ s.tp.loss = none → exec .trunkLoss s = .next s

/-- The Attention Unit at trunk loss (R159): every level leaves service; level 0 adds its delivered set to its latch;
the others keep a latch already set and else take the delivered detail. -/
def Obligations.LossReturnsLevels : Prop :=
  ∀ s : State,
    s.attentionLoss = { s with au.levels := s.attentionLoss.au.levels } ∧
    ∀ l, s.attentionLoss.level l = match (s.level l).service, (s.level l).latch with
      | none, _ => s.level l
      | some v, none => { s.level l with service := none, latch := some v.detail }
      | some v, some d =>
        { s.level l with service := none, latch := some (if l = 0 then d ||| v.detail else d) }

/-- The Transit Table at trunk loss (R57), in a state whose leg records stand in their places: FLUSHes are freed;
READs and WRITEs lose their QUEUED legs and their wait, and are ABANDONED if a leg is SENT and freed if none is;
ABANDONED entries stay. Nothing is answered. Held places and in-flight counts follow the entries that stay open. -/
def Obligations.LossAbandonsEntries : Prop :=
  ∀ s : State, s.LegsPlaced → s.Withdrawn →
    let t := s.transitLoss
    (∀ u, t.entry u = match s.entry u with
      | .free => .free
      | .flushing _ _ => .free
      | .data d =>
        if d.phase = .abandoned then .data d
        else if d.legs.any (fun l => l.state == .sent) then
          .data { d.dropWait with
            phase := .abandoned
            legs := d.legs.map fun l => if l.state = .queued then { l with state := .withdrawn } else l }
        else .free) ∧
    (∀ g, t.seg g = { s.seg g with queue := [] }) ∧
    (s.tp.held = s.openTags.length → t.tp = { s.tp with held := t.openTags.length }) ∧
    (s.InflightExact → t.InflightExact) ∧
    t.wb = { s.wb with inflightA := t.wb.inflightA, inflightB := t.wb.inflightB } ∧
    t.cb = s.cb ∧ t.pins = s.pins ∧ t.pending = s.pending ∧
    t.au = { s.au with levels := t.au.levels } ∧ ∀ l, l ≠ 6 → t.level l = s.level l

/-- A frame arrives (R167): it is counted; a failed check, a waiting reset or a full buffer discards it; else it joins
the tail of the receive buffer. No frame is received while the link is DOWN (R165). That every frame arriving while a
loss time runs is damaged is the model's reading of R164 (log 12). -/
def Obligations.FrameReceived : Prop :=
  (∀ s words, s.pins.porn = false → s.tp.link = .up →
    let k := s.count (partCounter .framesReceived)
    (s.tp.loss.isSome = true ∨ RxFrame.ofWords? words = none →
      exec (.frameReceived words) s = .next ((k.count (partCounter .framesCheckFailed)).finish s)) ∧
    ∀ f, s.tp.loss = none → RxFrame.ofWords? words = some f →
      exec (.frameReceived words) s = .next (State.finish
        (if s.cb.resetWaiting = true then k
         else if 8 ≤ s.tp.rx.length then k.count (partCounter .framesOverrun)
         else { k with tp.rx := s.tp.rx ++ [f] }) s)) ∧
  ∀ s words, s.pins.porn = true ∨ s.tp.link = .down → exec (.frameReceived words) s = .next s

/-- The head frame's last word is sent and its place frees (R171). When it is the answer of a waiting reset, behind
which no frame stands, the reset takes effect in the same step (R174). That nothing changes where nothing can be sent
is the model's choice (log 3). -/
def Obligations.FrameSent : Prop :=
  (∀ s f rest, s.pins.porn = false → s.tp.link = .up → s.tp.tx = f :: rest →
    let t : State := { s with tp.tx := rest, tp.wire := s.tp.wire ++ [f] }
    (s.cb.resetWaiting = false ∨ rest ≠ [] → exec .frameSent s = .next (t.finish s)) ∧
    (s.cb.resetWaiting = true → rest = [] → exec .frameSent s = .next t.applyManagementReset)) ∧
  ∀ s, s.pins.porn = true ∨ s.tp.link = .down ∨ s.tp.tx = [] → exec .frameSent s = .next s

/-- A waiting management reset takes effect (R174, R192): every row of the reset table, and nothing to deliver after
it. That its row itself sends the one frame left, or acts with none left, and does nothing before two or more, is the
model's reading of R174 (log 14, log 3). -/
def Obligations.ManagementResetTakesEffect : Prop :=
  (∀ s : State, s.applyManagementReset = { s with
    tt := Vector.replicate 32 .free
    wb.inflightA := 0, wb.inflightB := 0
    sc := s.sc.map fun c => { c with
      state := .offline, queue := [], sent := [], legTag := 0, failures := 0, attention := [], risen := false }
    au.levels := s.au.levels.map fun lv => { lv with latch := none, service := none }
    au.nextSequence := 0
    tp.rx := [], tp.tx := [], tp.held := 0
    cb.resetWaiting := false }) ∧
  (∀ s f, s.pins.porn = false → s.cb.resetWaiting = true → s.tp.link = .up → s.tp.tx = [f] →
    exec .managementResetTakesEffect s
      = .next (State.applyManagementReset { s with tp.tx := [], tp.wire := s.tp.wire ++ [f] })) ∧
  (∀ s, s.pins.porn = false → s.cb.resetWaiting = true → s.tp.link = .up → s.tp.tx = [] →
    exec .managementResetTakesEffect s = .next s.applyManagementReset) ∧
  ∀ s, s.pins.porn = true ∨ s.cb.resetWaiting = false ∨ s.tp.link = .down ∨ 2 ≤ s.tp.tx.length →
    exec .managementResetTakesEffect s = .next s

/-- R170. A taken frame that fails the structural check is answered MALFORMED, before any tag check, with the kind code
and the tag it carries, and is counted in frames_malformed. The three cases of the check. -/
def Obligations.MalformedFrame : Prop :=
  (∀ f : RxFrame, f.row = .malformedFrame ↔
    (∀ k : RequestKind, k.code ≠ f.kindCode) ∨ f.lengthField ≠ f.payload.length ∨
    ∃ k : RequestKind, k.code = f.kindCode ∧ ¬ match k with
      | .read | .write | .cread | .cwrite => 1 ≤ f.payload.length ∧ f.payload.length ≤ 17
      | .flush | .cancel => f.payload.length = 0
      | .command | .release => f.payload.length = 2) ∧
  ∀ s f rest, Takes s .malformedFrame f rest →
    exec .malformedFrame s = .next ((((s.taken rest).placeResponse
      { kind := f.kindCode, tag := f.tag, status := .malformed, applied := 0, skipped := 0, dissent := false,
        detail := 0, data := [] }).count (partCounter .framesMalformed)).finish s)

/-! ## Admission -/

/-- R7. Address A matches an enabled window when (A mod period) − base lies in [0, size), at that offset; only the low
p bits of A count; and in a valid record the comparison does not wrap around the period. -/
def Obligations.WindowMatch : Prop :=
  (∀ (w : WindowRecord) (a : Word) (o : Nat), w.offset? a = some o ↔
    w.enabled = true ∧ ((a.toNat % 2 ^ w.p.toNat : Nat) : Int) - (w.base.toNat : Int) = (o : Int) ∧
      o < 2 ^ w.k.toNat) ∧
  (∀ (w : WindowRecord) (a b : Word), a.toNat % 2 ^ w.p.toNat = b.toNat % 2 ^ w.p.toNat →
    w.offset? a = w.offset? b) ∧
  ∀ w : WindowRecord, w.enabled = true → w.valid = true →
    w.base.toNat + 2 ^ w.k.toNat ≤ 2 ^ w.p.toNat

/-- The decode of a request (R8 to R10, R14, R16): the lowest-numbered window of the active bank that the address
matches, then its access, then its boundary policy. -/
def Obligations.LowestWindowDecodes : Prop :=
  ∀ (b : WindowBanks) (isWrite : Bool) (a : Word) (n : Nat),
    ((∀ w, (b.record b.active w).offset? a = none) → b.decode isWrite a n = .noWindow) ∧
    ∀ (w : WindowId) (o : Nat), (b.record b.active w).offset? a = some o →
      (∀ v, v < w → (b.record b.active v).offset? a = none) →
      let r := b.record b.active w
      let allowed := match r.access with
        | .readWrite => true
        | .readOnly => !isWrite
        | .writeOnly => isWrite
        | .undefined => false
      (allowed = false → b.decode isWrite a n = .access w) ∧
      (allowed = true → r.parts? o n = none → b.decode isWrite a n = .boundary w) ∧
      ∀ ps, allowed = true → r.parts? o n = some ps → b.decode isWrite a n = .hit b.active w o ps

/-- The parts of a request (R11 to R14): one part when it fits; two when it wraps; none under REFUSE. In a valid record
every word of the request is carried at page × 65,536 + ((o + i) mod size), by the part that holds it. -/
def Obligations.PartsFormed : Prop :=
  (∀ (w : WindowRecord) (o n : Nat),
    (o + n ≤ w.size → w.parts? o n = some { first := ⟨w.segAddr o, n⟩, second := none }) ∧
    (w.size < o + n → w.boundary = .wrap → w.parts? o n = some
      { first := ⟨w.segAddr o, w.size - o⟩, second := some ⟨w.segAddr 0, o + n - w.size⟩ }) ∧
    (w.size < o + n → w.boundary = .refuse → w.parts? o n = none)) ∧
  ∀ (w : WindowRecord) (o n : Nat) (ps : Parts) (data : List Word),
    w.enabled = true → w.valid = true → o < w.size → 1 ≤ n → n ≤ 16 → data.length = n →
    w.parts? o n = some ps →
    1 ≤ ps.first.length ∧ (∀ q, ps.second = some q → 1 ≤ q.length) ∧
    (ps.numbers.flatMap (ps.wordsOf data) = data) ∧
    ∀ p ∈ ps.numbers, ∀ i, i < (ps.get p).length →
      (ps.get p).start.toNat + i = w.page.toNat * 65536
        + (o + (if p = .one then i else ps.first.length + i)) % w.size ∧
      (ps.wordsOf data p)[i]? = data[if p = .one then i else ps.first.length + i]?

/-- A record's validity (R18): a disabled record is valid; an enabled one by seven conditions, and a failure is
attributed to the first that fails, numbered 1 to 7. -/
def Obligations.RecordValidity : Prop :=
  ∀ w : WindowRecord,
    let reads := w.access = .readWrite ∨ w.access = .readOnly
    let writes := w.access = .readWrite ∨ w.access = .writeOnly
    let length := w.readLength.toNat
    let holds : Nat → Prop := fun n => match n with
      | 1 => 4 ≤ w.k.toNat ∧ w.k.toNat ≤ 16
      | 2 => w.k.toNat ≤ w.p.toNat ∧ w.p.toNat ≤ 32
      | 3 => w.base.toNat < 2 ^ w.p.toNat ∧ 2 ^ w.k.toNat ∣ w.base.toNat
      | 4 => w.access ≠ .undefined
      | 5 => writes → w.writeSet ≠ 0
      | 6 => reads → (w.readMode = .preferred → 1 ≤ length ∧ length ≤ 4) ∧
          (w.readMode = .vote → length = 2 ∨ length = 3) ∧
          ∀ i j : Fin 4, i < j → j.val < length → w.readList[i] ≠ w.readList[j]
      | 7 => w.retryLimit.toNat ≤ 3
      | _ => True
    (w.enabled = false → w.firstFailure? = none) ∧
    (w.enabled = true →
      (w.firstFailure? = none ↔ ∀ n, holds n) ∧
      ∀ n, w.firstFailure? = some n ↔ 1 ≤ n ∧ n ≤ 7 ∧ ¬ holds n ∧ ∀ m, m < n → holds m) ∧
    (w.valid = true ↔ w.firstFailure? = none)

/-- The legged segments of a request and when check 6 passes (R39, R63 to R65, R79, R90). -/
def Obligations.LeggedSegments : Prop :=
  ∀ (s : State) (w : WindowRecord),
    let eligible := fun g => (s.seg g).state = .active ∨ (s.seg g).state = .rejoining
    let passes := match w.policy with
      | .strict => ∀ g, hasSeg w.writeSet g = true → eligible g
      | .degraded => ∃ g, hasSeg w.writeSet g = true ∧ eligible g
    (∀ data,
      (¬ passes → s.leggedForWrite w data = none) ∧
      (passes → ∃ skipped legged, s.leggedForWrite w data = some (.write data skipped, legged) ∧
        legged.Pairwise (· < ·) ∧ (∀ g, g ∈ legged ↔ hasSeg w.writeSet g = true ∧ eligible g) ∧
        (∀ g, hasSeg skipped g = true ↔ hasSeg w.writeSet g = true ∧ ¬ eligible g))) ∧
    (w.readMode = .preferred →
      ((∀ g ∈ w.members, (s.seg g).state ≠ .active) → s.leggedForRead w = none) ∧
      ∀ (i : Fin 4) (g : SegId), w.members[i.val]? = some g → (s.seg g).state = .active →
        (∀ j, j < i.val → ∀ h, w.members[j]? = some h → (s.seg h).state ≠ .active) →
        s.leggedForRead w = some (.preferred i none, [g])) ∧
    (w.readMode = .vote → ∃ legged : List SegId, legged.Pairwise (· < ·) ∧
      (∀ g, g ∈ legged ↔ g ∈ w.members ∧ (s.seg g).state = .active) ∧
      s.leggedForRead w = if 2 ≤ legged.length then some (.vote false, legged) else none)

/-- A READ or WRITE that fails an admission check is answered by the first check it fails, in the order of R37, and
leaves no state (R37, R38, R40). `LowestWindowDecodes` and `LeggedSegments` state checks 3 to 6. -/
def Obligations.RequestRefused : Prop :=
  ∀ (c : Instr) (row : TakenRow) (w : Bool) (s : State) (f : RxFrame) (rest : List RxFrame),
    DataCommand c row w → Takes s row f rest →
    let k := s.taken rest
    let agree := 1 ≤ f.count ∧ f.count ≤ 16 ∧ (if w = true then f.data.length = f.count else f.data = [])
    (s.entry f.tag ≠ .free → exec c s = .next ((k.placeResponse (f.reply .tagInUse 0)).finish s)) ∧
    (s.entry f.tag = .free →
      (¬ agree → exec c s = .next
        (((k.placeResponse (f.reply .malformed 0)).count (partCounter .framesMalformed)).finish s)) ∧
      (agree →
        (s.wb.decode w f.address f.count = .noWindow →
          exec c s = .next ((k.placeResponse (f.reply .noWindow 0)).finish s)) ∧
        (∀ i, s.wb.decode w f.address f.count = .access i →
          exec c s = .next ((k.placeResponse (f.reply .access (toWord i.val))).finish s)) ∧
        (∀ i, s.wb.decode w f.address f.count = .boundary i →
          exec c s = .next ((k.placeResponse (f.reply .boundary (toWord i.val))).finish s)) ∧
        ∀ bank i o ps, s.wb.decode w f.address f.count = .hit bank i o ps →
          let legs := if w = true then s.leggedForWrite (s.wb.record bank i) f.data
            else s.leggedForRead (s.wb.record bank i)
          (legs = none →
            exec c s = .next ((k.placeResponse (f.reply .segmentUnavailable (toWord i.val))).finish s)) ∧
          ∀ request legged, legs = some (request, legged) →
            (∃ g ∈ legged, s.freeSlots g < ps.count ∨ ∃ t d, s.entry t = .data d ∧ d.waiting = some g) →
            exec c s = .next
              (((k.placeResponse (f.reply .busy (toWord i.val))).count (partCounter .requestsBusy)).finish s)))

/-- A READ or WRITE that passes every check is accepted in one step (R15, R21, R41, R62): its entry is PENDING with its
fields and its QUEUED legs, the legs stand at the tails of the segments' queues, ascending, part 1 before part 2, the
bank's count rises, the place stays held, and nothing else changes. -/
def Obligations.RequestAccepted : Prop :=
  ∀ (c : Instr) (row : TakenRow) (w : Bool) (s : State) (f : RxFrame) (rest : List RxFrame)
    (bank : Bank) (i : WindowId) (o : Nat) (ps : Parts) (request : Request) (legged : List SegId),
    DataCommand c row w → Takes s row f rest → s.entry f.tag = .free →
    1 ≤ f.count → f.count ≤ 16 → (if w = true then f.data.length = f.count else f.data = []) →
    s.wb.decode w f.address f.count = .hit bank i o ps →
    (if w = true then s.leggedForWrite (s.wb.record bank i) f.data else s.leggedForRead (s.wb.record bank i))
      = some (request, legged) →
    (∀ g ∈ legged, ps.count ≤ s.freeSlots g ∧ ∀ t d, s.entry t = .data d → d.waiting ≠ some g) →
    let freshFor := fun g => ps.numbers.map fun p => ({ seg := g, part := p, state := .queued, timeouts := 0 } : Leg)
    let refsOn := fun g => (List.range ps.count).map fun n =>
      ({ entry := f.tag, index := legged.idxOf g * ps.count + n } : LegRef)
    ∃ t : State, exec c s = .next (t.finish s) ∧
      t.entry f.tag = .data
        { phase := .pending, bank := bank, window := i, parts := ps, request := request,
          legs := legged.flatMap freshFor } ∧
      (∀ u, u ≠ f.tag → t.entry u = s.entry u) ∧
      (∀ g, t.seg g = if g ∈ legged then { s.seg g with queue := (s.seg g).queue ++ refsOn g } else s.seg g) ∧
      t.wb = s.wb.setInflight bank (s.wb.inflight bank + 1) ∧
      t.tp = { s.tp with rx := rest, held := s.tp.held + 1 } ∧
      t.au = s.au ∧ t.cb = s.cb ∧ t.pins = s.pins ∧ t.pending = s.pending

/-! ## FLUSH, CANCEL, freeing -/

/-- A FLUSH (R36, R43): TAG_IN_USE for an open tag; OK at once with detail 0 when no entry is open; else its entry
becomes FLUSHING with every open tag in its barrier set. The sets, flag and data of TAG_IN_USE are the model's choice
(log 21). -/
def Obligations.Flush : Prop :=
  ∀ (s : State) (f : RxFrame) (rest : List RxFrame), Takes s .flush f rest →
    let k := s.taken rest
    (s.entry f.tag ≠ .free → exec .flush s = .next ((k.placeResponse (f.reply .tagInUse 0)).finish s)) ∧
    ((∀ t, s.entry t = .free) → exec .flush s = .next ((k.placeResponse (f.reply .ok 0)).finish s)) ∧
    (s.entry f.tag = .free → (∃ t, s.entry t ≠ .free) → ∃ barrier : List Tag,
      barrier.Pairwise (· < ·) ∧ (∀ t, t ∈ barrier ↔ s.entry t ≠ .free) ∧
      exec .flush s = .next ((k.setEntry f.tag (.flushing barrier barrier.length)).finish s)) ∧
    f.kindCode = 0x03

/-- R56. A CANCEL of a CANCELLING or ABANDONED entry is answered ACCEPTED and changes nothing. Beside it: NO_SUCH_TAG
for a FREE target (R52); a FLUSHING target is answered CANCELLED with the tags left and freed, then the CANCEL is
answered (R53). The sets, flag and data of the CANCEL's own answers are the model's choice (log 21). -/
def Obligations.CancelAnswers : Prop :=
  ∀ (s : State) (f : RxFrame) (rest : List RxFrame), Takes s .cancel f rest →
    let k := s.taken rest
    (s.entry f.tag = .free → exec .cancel s = .next ((k.placeResponse (f.reply .noSuchTag 0)).finish s)) ∧
    (∀ d, s.entry f.tag = .data d → d.phase = .cancelling ∨ d.phase = .abandoned →
      exec .cancel s = .next ((k.placeResponse (f.reply .accepted 0)).finish s)) ∧
    ∀ barrier n, s.entry f.tag = .flushing barrier n →
      exec .cancel s = .next ((State.placeResponse
        ((k.placeResponse
          { kind := 0x03, tag := f.tag, status := .cancelled, applied := 0, skipped := 0, dissent := false,
            detail := toWord barrier.length, data := [] }).freeEntry f.tag)
        (f.reply .accepted 0)).finish s)

/-- A CANCEL of a PENDING entry (R54, R55): its QUEUED legs leave their queues WITHDRAWN and its wait is dropped; with
a leg SENT it becomes CANCELLING; with none it is answered CANCELLED and freed; slots that rose are offered to waiters;
then the CANCEL is answered. That a dropped wait offers no slots (log 9) is the model's reading,
and the sets, flag and data of the CANCEL's answer (log 21) are its choice. -/
def Obligations.CancelPending : Prop :=
  ∀ (s : State) (f : RxFrame) (rest : List RxFrame) (d : DataEntry), Takes s .cancel f rest → s.LegsPlaced →
    s.entry f.tag = .data d → d.phase = .pending →
    let e : DataEntry := { d.dropWait with
      legs := d.legs.map fun l => if l.state = .queued then { l with state := .withdrawn } else l }
    let v : State := State.setEntry { s.taken rest with
      sc := s.sc.map fun c => { c with queue := c.queue.filter fun r => r.entry != f.tag } } f.tag (.data e)
    let rose := allSegs.filter fun g => (s.seg g).queue.any fun r => r.entry == f.tag
    let u := if d.legs.any (fun l => l.state == .sent) then v.setEntry f.tag (.data { e with phase := .cancelling })
      else (v.placeResponse
        { kind := e.kindCode, tag := f.tag, status := .cancelled, applied := e.applied, skipped := e.skipped,
          dissent := false, detail := 0, data := [] }).freeEntry f.tag
    exec .cancel s = .next (((rose.foldl (fun w g => (w.rise g).offerRise g) u).placeResponse
      (f.reply .accepted 0)).finish s)

/-- Freeing an entry (R21, R29, R49): a READ's or WRITE's bank counts one less, and a shadow whose last entry it was
raises level 6; the tag leaves every barrier set; then the lowest FLUSH left with an empty set is answered OK with its
barrier size and freed in turn, until none is left. No FLUSH is answered while a reset waits (R59). -/
def Obligations.EntryFreed : Prop :=
  (∀ (s : State) (t : Tag) (d : DataEntry), s.entry t = .data d →
    s.freeEntry t = ((s.countOut d.bank).clearEntry t).releaseChain) ∧
  (∀ (s : State) (t : Tag) (b : List Tag) (n : Nat), s.entry t = .flushing b n →
    s.freeEntry t = (s.clearEntry t).releaseChain) ∧
  (∀ (s : State) (which : Bank),
    let u := { s with wb := s.wb.setInflight which (s.wb.inflight which - 1) }
    s.countOut which = if which ≠ s.wb.active ∧ s.wb.inflight which = 1 then u.raise 6 which.code else u) ∧
  (∀ (s : State) (t : Tag), s.clearEntry t = { s with tt := (s.clearEntry t).tt } ∧
    (s.clearEntry t).entry t = .free ∧
    ∀ u, u ≠ t → (s.clearEntry t).entry u = match s.entry u with
      | .flushing b n => .flushing (b.filter (· != t)) n
      | e => e) ∧
  (∀ s : State, s.cb.resetWaiting = true ∨ (∀ t n, s.entry t ≠ .flushing [] n) → s.releaseChain = s) ∧
  ∀ (s : State) (t : Tag) (n : Nat), s.cb.resetWaiting = false → s.entry t = .flushing [] n →
    (∀ u, u < t → ∀ m, s.entry u ≠ .flushing [] m) →
    s.releaseChain = ((s.placeResponse
      { kind := 0x03, tag := t, status := .ok, applied := 0, skipped := 0, dissent := false,
        detail := toWord n, data := [] }).clearEntry t).releaseChain

/-! ## Results -/

/-- R70. A settled WRITE is answered OK, PARTIAL or FAILED from its legs, with the contents of R71, and freed. -/
def Obligations.WriteSettles : Prop :=
  ∀ (s : State) (t : Tag) (d : DataEntry) (data : List Word) (skipped : SegSet) (legged : List SegId),
    s.entry t = .data d → d.request = .write data skipped → d.phase = .pending → s.cb.resetWaiting = false →
    (∀ l ∈ d.legs, l.state ≠ .queued ∧ l.state ≠ .sent) → legged ≠ [] → legged.Nodup →
    (d.legs.map fun l => (l.seg, l.part)) = (legged.flatMap fun g => d.parts.numbers.map fun p => (g, p)) →
    ∃ r : Response, s.examine t = (s.placeResponse r).freeEntry t ∧ r.kind = 0x02 ∧ r.tag = t ∧
      (r.status = .ok ∨ r.status = .partly ∨ r.status = .failed) ∧
      (r.status = .ok ↔ ∀ l ∈ d.legs, l.state.isDone = true) ∧
      (r.status = .partly ↔ (∃ g ∈ legged, d.AppliedTo g) ∧ ∃ g ∈ legged, ¬ d.AppliedTo g) ∧
      (r.status = .failed ↔ ∀ g, ¬ d.AppliedTo g) ∧
      (∀ g, hasSeg r.applied g = true ↔ d.AppliedTo g) ∧ r.skipped = skipped ∧ r.dissent = false ∧
      (∀ g, r.detailField g = d.firstReason g) ∧ r.data = []

/-- A settled PREFERRED READ (R89, R96): OK with its cursor segment's data when every part is DONE there, else FAILED;
then freed. -/
def Obligations.PreferredSettles : Prop :=
  ∀ (s : State) (t : Tag) (d : DataEntry) (c : Fin 4),
    s.entry t = .data d → d.request = .preferred c none → d.phase = .pending → s.cb.resetWaiting = false →
    (∀ l ∈ d.legs, l.state ≠ .queued ∧ l.state ≠ .sent) →
    let seg := (s.windowOf d).readList[c]
    ∃ r : Response, s.examine t = (s.placeResponse r).freeEntry t ∧ r.kind = 0x01 ∧ r.tag = t ∧
      (d.AppliedTo seg → r.status = .ok ∧ r.data = d.wordsFrom seg) ∧
      (¬ d.AppliedTo seg → r.status = .failed ∧ r.data = []) ∧
      (∀ g, hasSeg r.applied g = true ↔ g = seg ∧ d.AppliedTo seg) ∧ r.skipped = 0 ∧ r.dissent = false ∧
      ∀ g, r.detailField g = d.firstReason g

/-- R92. A settled VOTE READ compares its successful members: OK with the data on which two agree, else VOTE_FAIL. With
it the dissent and level 1 (R93) and the response's contents (R94); then the entry is freed. -/
def Obligations.VoteSettles : Prop :=
  ∀ (s : State) (t : Tag) (d : DataEntry) (b : Bool) (members : List SegId),
    s.entry t = .data d → d.request = .vote b → d.phase = .pending → s.cb.resetWaiting = false →
    (∀ l ∈ d.legs, l.state ≠ .queued ∧ l.state ≠ .sent ∧ l.seg ∈ members) → members.length ≤ 3 →
    let agree := fun g h : SegId => g ≠ h ∧ d.AppliedTo g ∧ d.AppliedTo h ∧ d.wordsFrom g = d.wordsFrom h
    let won := ∃ g h, agree g h
    let dissents := (∃ g h k, agree g h ∧ d.AppliedTo k ∧ d.wordsFrom k ≠ d.wordsFrom g) ∨
      ¬ won ∧ ∃ g h, g ≠ h ∧ d.AppliedTo g ∧ d.AppliedTo h
    ∃ r : Response,
      s.examine t = (State.placeResponse
        ((if r.dissent = true then s.raise 1 (toWord t.val) else s).setEntry t
          (.data { d with request := .vote r.dissent })) r).freeEntry t ∧
      r.kind = 0x01 ∧ r.tag = t ∧
      (r.status = .ok ∨ r.status = .voteFail) ∧ (r.status = .ok ↔ won) ∧ (r.dissent = true ↔ dissents) ∧
      (∀ g h, agree g h → r.data = d.wordsFrom g) ∧ (¬ won → r.data = []) ∧
      (∀ g, hasSeg r.applied g = true ↔ d.AppliedTo g) ∧ r.skipped = 0 ∧
      ∀ g,
        (¬ d.AppliedTo g → r.detailField g = d.firstReason g) ∧
        (d.AppliedTo g → (won ∧ d.wordsFrom g ≠ r.data ∨ ¬ won ∧ dissents) → r.detailField g = 5) ∧
        (d.AppliedTo g → (won ∧ d.wordsFrom g = r.data ∨ ¬ won ∧ ¬ dissents) → r.detailField g = 0)

/-- An outcome is recorded and taken by the entry's state (R45 to R47, R55, R57, R59, R81, R82). That a leg on the
cursor segment counts as superseded once no segment is left is the model's reading (log 10). -/
def Obligations.OutcomeTaken : Prop :=
  (∀ (d : DataEntry) (w : WindowRecord) (g : SegId), d.supersededOn w g = true ↔
    ∃ c wait, d.request = .preferred c wait ∧
      (g ≠ w.readList[c] ∨ d.noneLeft = true)) ∧
  (∀ (s : State) (x : LegRef) (d : DataEntry) (l : Leg) (result : LegState), s.leg? x = some (d, l) →
    let superseded := d.supersededOn (s.windowOf d) l.seg
    let m : Leg := { l with state := if superseded = true ∧ result.isDone = true then .done none else result }
    let e : DataEntry := { d with legs := d.legs.set x.index m }
    let v := s.setEntry x.entry (.data e)
    let awaited := e.legs.any fun n => n.state == .sent
    (d.phase = .pending → s.legOutcome x result =
      State.examine (match d.request, superseded, result with
        | .preferred _ _, false, .failed _ => v.failover x.entry
        | _, _, _ => v) x.entry) ∧
    (d.phase = .cancelling → s.legOutcome x result =
      if awaited = true ∨ s.cb.resetWaiting = true then v
      else (v.placeResponse
        { kind := d.kindCode, tag := x.entry, status := .cancelled, applied := e.applied, skipped := d.skipped,
          dissent := false, detail := 0, data := [] }).freeEntry x.entry) ∧
    (d.phase = .abandoned → s.legOutcome x result =
      if awaited = true then v else v.releaseHold.freeEntry x.entry)) ∧
  (∀ (d : DataEntry) (g : SegId), hasSeg d.applied g = true ↔ d.AppliedTo g) ∧
  ∀ (s : State) (t : Tag) (d : DataEntry), s.entry t = .data d →
    (d.phase ≠ .pending ∨ d.waiting ≠ none ∨ s.cb.resetWaiting = true ∨
      ∃ l ∈ d.legs, l.state = .queued ∨ l.state = .sent) → s.examine t = s

/-! ## Failover -/

/-- A failover (R81, R83 to R85): the cursor segment's data is discarded and its QUEUED legs are withdrawn; the cursor
moves to the next ACTIVE member, with fresh legs at the tail of its queue when it has room and else a wait; with no
such member the READ has no segment left, which the entry records in the model's own field (log 10). -/
def Obligations.FailoverChoosesNext : Prop :=
  ∀ (s : State) (t : Tag) (d : DataEntry) (c : Fin 4) (wait : Option SegId),
    s.entry t = .data d → d.request = .preferred c wait →
    let w := s.windowOf d
    let seg := w.readList[c]
    s.failover t = (State.moveOn ((s.setEntry t (.data { d with
        legs := d.legs.mapIdx fun i l =>
          if ({ entry := t, index := i } : LegRef) ∈ (s.seg seg).queue then { l with state := .withdrawn }
          else if l.seg = seg ∧ l.state.isDone = true then { l with state := .done none } else l })).setSeg seg
        { s.seg seg with queue := (s.seg seg).queue.filter fun r => r.entry != t }) t) ∧
    ((∀ i g, c.val < i → w.members[i]? = some g → (s.seg g).state ≠ .active) →
      s.moveOn t = s.setEntry t (.data { d with request := .preferred c none, noneLeft := true })) ∧
    ∀ (i : Fin 4) (g : SegId), c < i → w.members[i.val]? = some g → (s.seg g).state = .active →
      (∀ j h, c.val < j → j < i.val → w.members[j]? = some h → (s.seg h).state ≠ .active) →
      let room := d.parts.count ≤ s.freeSlots g ∧ ∀ u e, u ≠ t → s.entry u = .data e → e.waiting ≠ some g
      (room → s.moveOn t = (s.setEntry t (.data { d with
          request := .preferred i none
          legs := d.legs ++ d.parts.numbers.map fun p =>
            { seg := g, part := p, state := .queued, timeouts := 0 } })).setSeg g
          { s.seg g with queue := (s.seg g).queue ++ (List.range d.parts.count).map fun n =>
            { entry := t, index := d.legs.length + n } }) ∧
      (¬ room → s.moveOn t = s.setEntry t (.data { d with request := .preferred i (some g) }))

/-- A rise of free slots is offered once to the waiters of an ACTIVE segment, lowest tag first, as far as the slots
cover them (R86): the lowest waiter gets fresh legs and its wait ends, and the next is looked at; the first that is not
covered stops. Without a rise no waiter is looked at. The mark of a rise is the model's own (log 7). -/
def Obligations.WaitersServed : Prop :=
  (∀ s g, s.pins.porn = false → exec (.failoverWaitServed g) s = .next ((s.offerRise g).finish s)) ∧
  (∀ (s : State) (g : SegId),
    s.rise g = s.setSeg g { s.seg g with risen := true } ∧
    ((s.seg g).risen = true →
      s.offerRise g = State.serveWaiters (s.setSeg g { s.seg g with risen := false }) g) ∧
    ((s.seg g).risen = false → s.offerRise g = s)) ∧
  ∀ (s : State) (g : SegId),
    ((s.seg g).state ≠ .active ∨ (∀ t d, s.entry t = .data d → d.waiting ≠ some g) → s.serveWaiters g = s) ∧
    ∀ (t : Tag) (d : DataEntry) (c : Fin 4), (s.seg g).state = .active → s.entry t = .data d →
      d.request = .preferred c (some g) → (∀ u e, u < t → s.entry u = .data e → e.waiting ≠ some g) →
      (d.parts.count ≤ s.freeSlots g → s.serveWaiters g = State.serveWaiters
        ((s.setEntry t (.data { d with
          request := .preferred c none
          legs := d.legs ++ d.parts.numbers.map fun p =>
            { seg := g, part := p, state := .queued, timeouts := 0 } })).setSeg g
          { s.seg g with queue := (s.seg g).queue ++ (List.range d.parts.count).map fun n =>
            { entry := t, index := d.legs.length + n } }) g) ∧
      (s.freeSlots g < d.parts.count → s.serveWaiters g = s)

/-! ## The leg protocol -/

/-- A leg is sent (R103, R104, R106) while the segment carries legs, the sent list is shorter than the window and the
next leg tag is not held: it moves to the tail of the sent list under that tag with a fresh timer, its frame is placed,
it is recorded SENT and counted. Else nothing is sent; that the command then leaves the state unchanged is the model's
choice (log 3). -/
def Obligations.LegSent : Prop :=
  ∀ (s : State) (g : SegId), s.pins.porn = false →
    let c := s.seg g
    let may := (c.state = .active ∨ c.state = .rejoining) ∧ c.sent.length < c.sendWindow ∧
      ∀ x ∈ c.sent, x.tag ≠ c.legTag
    (∀ x rest d l, c.queue = x :: rest → s.leg? x = some (d, l) → may →
      let p := d.parts.get l.part
      let frame := match d.request with
        | .write data _ => DownFrame.legWrite c.legTag p.start (d.parts.wordsOf data l.part)
        | _ => DownFrame.legRead c.legTag p.start p.length
      exec (.sendLeg g) s = .next (State.finish (((s.setSeg g { c with
          queue := rest
          sent := c.sent ++ [{ ref := x, tag := c.legTag, timer := c.legTimeout }]
          legTag := c.legTag + 1
          line := c.line ++ [frame] }).setEntry x.entry
            (.data { d with legs := d.legs.set x.index { l with state := .sent } })).count
          (segCounter g .legsSent)) s)) ∧
    (c.queue = [] ∨ ¬ may → exec (.sendLeg g) s = .next s)

/-- A LEG_DONE matched to a sent leg (R108): with an agreeing count the leg leaves the sent list, the failure count is
cleared, it is counted, its outcome DONE is taken and the freed slot is offered to waiters; else the frame is corrupt. -/
def Obligations.LegDone : Prop :=
  ∀ (s : State) (g : SegId) (tag : LegTag) (data : List Word) (x : SentLeg) (d : DataEntry) (l : Leg),
    s.pins.porn = false → (s.seg g).state = .active ∨ (s.seg g).state = .rejoining →
    (s.seg g).sentUnder? tag = some x → s.leg? x.ref = some (d, l) →
    let agrees := match d.request with
      | .write _ _ => data = []
      | _ => data.length = (d.parts.get l.part).length
    let kept := match d.request with
      | .write _ _ => none
      | _ => some data
    (agrees → exec (.legDone g tag data) s = .next ((((State.count
        (s.setSeg g { s.seg g with
          sent := (s.seg g).sent.filter fun y => y.tag != tag, risen := true, failures := 0 })
        (segCounter g .legsDone)).legOutcome x.ref (.done kept)).offerRise g).finish s)) ∧
    (¬ agrees → exec (.legDone g tag data) s = .next ((s.count (segCounter g .corruptFrames)).finish s))

/-- A LEG_REFUSED matched to a sent leg (R109): the leg leaves the sent list and fails with DEVICE_REFUSED, the device
code is kept, the failure count is cleared, it is counted, and the freed slot is offered to waiters. -/
def Obligations.LegRefused : Prop :=
  ∀ (s : State) (g : SegId) (tag : LegTag) (code : Byte) (x : SentLeg),
    s.pins.porn = false → (s.seg g).state = .active ∨ (s.seg g).state = .rejoining →
    (s.seg g).sentUnder? tag = some x →
    exec (.legRefused g tag code) s = .next ((((State.count
      (s.setSeg g { s.seg g with
        sent := (s.seg g).sent.filter fun y => y.tag != tag
        risen := true, failures := 0, lastFailure := .deviceRefused code })
      (segCounter g .deviceRefusals)).legOutcome x.ref (.failed .deviceRefused)).offerRise g).finish s)

/-- Upstream frames that act on nothing (R107, R110): a corrupt one is counted in corrupt_frames, a stray one in
stray_frames. An intact frame given as raw words does what its row does (log 15). -/
def Obligations.StrayAndCorruptFrames : Prop :=
  ∀ (s : State) (g : SegId), s.pins.porn = false →
    let carries := (s.seg g).state = .active ∨ (s.seg g).state = .rejoining
    let stray := Host.Outcome.next ((s.count (segCounter g .strayFrames)).finish s)
    (∀ tag data, ¬ carries ∨ (∀ x ∈ (s.seg g).sent, x.tag ≠ tag) → exec (.legDone g tag data) s = stray) ∧
    (∀ tag code, ¬ carries ∨ (∀ x ∈ (s.seg g).sent, x.tag ≠ tag) → exec (.legRefused g tag code) s = stray) ∧
    (∀ tag, (∀ n y, (s.seg g).state ≠ .probing tag n y) → exec (.probeReply g tag) s = stray) ∧
    (∀ source, ¬ carries → exec (.attnReport g source) s = stray) ∧
    (∀ words, UpFrame.ofWords? words = none →
      exec (.corruptFrame g words) s = .next ((s.count (segCounter g .corruptFrames)).finish s)) ∧
    ∀ words u, UpFrame.ofWords? words = some u → exec (.corruptFrame g words) s = exec (match u with
      | .legDone tag data => .legDone g tag data
      | .legRefused tag code => .legRefused g tag code
      | .probeReply tag => .probeReply g tag
      | .attnReport source => .attnReport g source) s

/-- A leg timer's expiry (R115, R117): the leg's and the segment's counts rise and leg_timeouts is counted; then the
segment faults at its threshold, else a resendable leg within its retry limit is rewound, else the leg fails with
TIMEOUT and the legs behind it stay. That a timer with time left lets it pass for every timer is the model's choice
(log 4), and so is the unchanged state for a leg that is not in the sent list (log 3). -/
def Obligations.LegTimerExpiry : Prop :=
  (∀ (s : State) (g : SegId) (tag : LegTag) (x : SentLeg) (d : DataEntry) (l : Leg),
    s.pins.porn = false → (s.seg g).sentUnder? tag = some x → x.timer = 0 ∨ s.pins.refclk = true →
    s.leg? x.ref = some (d, l) →
    let e := s.elapse x.timer
    let sent := (e.seg g).sent
    let m : Leg := { l with timeouts := l.timeouts + 1 }
    let v := ((e.setSeg g { e.seg g with failures := (s.seg g).failures + 1 }).setEntry x.ref.entry
      (.data { d with legs := d.legs.set x.ref.index m })).count (segCounter g .legTimeouts)
    let reached := (s.seg g).faultThreshold ≤ (s.seg g).failures + 1
    let again := d.phase = .pending ∧ d.supersededOn (s.windowOf d) l.seg = false ∧
      l.timeouts + 1 ≤ (s.windowOf d).retryLimit.toNat
    (reached → exec (.legTimerExpiry g tag) s = .next ((v.fault g).finish e)) ∧
    (¬ reached → again → exec (.legTimerExpiry g tag) s = .next (State.finish
      (v.rewind g (sent.takeWhile fun y => y.tag != tag) (sent.dropWhile fun y => y.tag != tag)) e)) ∧
    (¬ reached → ¬ again → exec (.legTimerExpiry g tag) s = .next (State.finish
      ((State.legOutcome (v.setSeg g { v.seg g with
          sent := sent.filter fun y => y.tag != tag, risen := true, lastFailure := .timeout }) x.ref
        (.failed .timeout)).offerRise g) e))) ∧
  ∀ (s : State) (g : SegId) (tag : LegTag), (∀ x ∈ (s.seg g).sent, x.tag ≠ tag) →
    exec (.legTimerExpiry g tag) s = .next s

/-- A rewind (R116): the run leaves the sent list; its resendable legs return to the head of the queue in send order,
each QUEUED with its own timeout count; the rest are withdrawn, each an outcome, which raises the free slots; rewinds is
counted once; a rise is offered to waiters. A leg is resendable while its entry is PENDING and it is not superseded
(R114). That the withdrawn legs are taken as outcomes in send order is the model's choice (log 22). -/
def Obligations.RewindRequeues : Prop :=
  (∀ (s : State) (x : LegRef), s.resendable x = true ↔
    ∃ d l, s.leg? x = some (d, l) ∧ d.phase = .pending ∧ d.supersededOn (s.windowOf d) l.seg = false) ∧
  (∀ (s : State) (g : SegId) (front run : List SentLeg), ∃ v : State,
    let refs := run.map SentLeg.ref
    let gone := refs.filter fun x => !s.resendable x
    s.rewind g front run = (State.offerRise
      (gone.foldl (fun u x => u.legOutcome x .withdrawn) v) g) ∧
    v = State.count { v with cb := s.cb, au := s.au } (segCounter g .rewinds) ∧
    v.tp = s.tp ∧ v.wb = s.wb ∧ v.pins = s.pins ∧ v.pending = s.pending ∧
    (∀ h, v.seg h = if h = g then
      { s.seg g with
        sent := front, queue := refs.filter s.resendable ++ (s.seg g).queue
        risen := if gone = [] then (s.seg g).risen else true } else s.seg h) ∧
    (∀ t, (∀ d, s.entry t ≠ .data d) → v.entry t = s.entry t) ∧
    ∀ t d, s.entry t = .data d → v.entry t = .data { d with
      legs := d.legs.mapIdx fun i l =>
        if ({ entry := t, index := i } : LegRef) ∈ refs.filter s.resendable then { l with state := .queued }
        else l })

/-! ## Segment states -/

/-- A segment is taken out of service (R119, R132, R157): its lists and its attention queue are emptied, the latch of
its level is cleared, every leg fails in order, sent list first, and the waits on it move on by tag. After it the
segment holds no leg, no report and no wait. That its level, when in service, stays so even where a RELEASE has just
delivered it again is the model's reading (log 23). -/
def Obligations.OutOfService : Prop :=
  ∀ (s : State) (g : SegId) (target : SegState) (reason : FailureReason),
    target = .offline ∨ target = .faulted ∨ (∃ n, target = .resetting n) →
    reason = .segmentStopped ∨ reason = .segmentFaulted →
    let refs := (s.seg g).sent.map SentLeg.ref ++ (s.seg g).queue
    let v := (s.setSeg g { s.seg g with
        state := target, sent := [], queue := [], attention := []
        lastFailure := if refs = [] then (s.seg g).lastFailure
          else if reason = .segmentStopped then .segmentStopped else .segmentFaulted }).setLevel (deviceLevel g)
        { s.level (deviceLevel g) with latch := none }
    let t := s.outOfService g target reason
    t = allTags.foldl (fun u tag => if u.waitsOn g tag = true then (u.moveOn tag).examine tag else u)
      (refs.foldl (fun u x => u.legOutcome x (.failed reason)) v) ∧
    t.seg g = v.seg g ∧ t.level (deviceLevel g) = v.level (deviceLevel g) ∧
    (∀ tag d, t.entry tag = .data d → d.waiting ≠ some g) ∧
    ∀ h, h ≠ g → t.seg h = { s.seg h with queue := (t.seg h).queue }

/-- A segment enters FAULTED (R133, R142): out of service from ACTIVE or REJOINING, the state alone from PROBING; level
0 gains the segment and faults is counted. -/
def Obligations.SegmentFaults : Prop :=
  (∀ (s : State) (g : SegId), (s.seg g).state = .active ∨ (s.seg g).state = .rejoining →
    s.fault g = (State.raise (s.outOfService g .faulted .segmentFaulted) 0 (1#32 <<< g.val)).count
      (segCounter g .faults)) ∧
  (∀ (s : State) (g : SegId) tag n y, (s.seg g).state = .probing tag n y →
    s.fault g = (State.raise (s.setSeg g { s.seg g with state := .faulted }) 0 (1#32 <<< g.val)).count
      (segCounter g .faults)) ∧
  ∀ (s : State) (l : LevelId) (detail : Word), s.raise l detail = s.setLevel l { s.level l with
    latch := some (match (s.level l).latch with
      | some old => if l = 0 then old ||| detail else detail
      | none => detail) }

/-- Probing and the line reset (R120, R127, R128, R131): a matched PROBE_REPLY ends probing; a probe timeout raises the
failure count, and faults the segment at its threshold or sends the next PROBE; the end of the line reset is OFFLINE.
That time left passes for every timer (log 4), and that nothing changes where no such timer runs (log 3), is the model's
choice. -/
def Obligations.ProbingAndLineReset : Prop :=
  (∀ (s : State) (g : SegId) tag n y, s.pins.porn = false → (s.seg g).state = .probing tag n y →
    exec (.probeReply g tag) s = .next (State.finish
      (s.setSeg g { s.seg g with state := if y = true then .active else .rejoining, failures := 0 }) s)) ∧
  (∀ (s : State) (g : SegId) tag n y, s.pins.porn = false → (s.seg g).state = .probing tag n y →
    n = 0 ∨ s.pins.refclk = true →
    let e := s.elapse n
    let c := e.seg g
    ((s.seg g).faultThreshold ≤ (s.seg g).failures + 1 → exec (.probeTimeout g) s
      = .next ((State.fault (e.setSeg g { c with failures := c.failures + 1 }) g).finish e)) ∧
    ((s.seg g).failures + 1 < (s.seg g).faultThreshold → exec (.probeTimeout g) s = .next (State.finish
      (e.setSeg g { c with
        failures := c.failures + 1, state := .probing c.legTag c.legTimeout y, legTag := c.legTag + 1
        line := c.line ++ [.probe c.legTag] }) e))) ∧
  (∀ (s : State) (g : SegId) n, s.pins.porn = false → (s.seg g).state = .resetting n →
    n = 0 ∨ s.pins.refclk = true →
    let e := s.elapse n
    exec (.lineResetExpiry g) s = .next (State.finish (e.setSeg g { e.seg g with state := .offline }) e)) ∧
  (∀ (s : State) (g : SegId), (∀ tag n y, (s.seg g).state ≠ .probing tag n y) →
    exec (.probeTimeout g) s = .next s) ∧
  ∀ (s : State) (g : SegId), (∀ n, (s.seg g).state ≠ .resetting n) → exec (.lineResetExpiry g) s = .next s

/-- The four segment commands on a free tag (R125, R126, R129 to R131): where the state allows it the command is carried
out and answered OK with the new state's code; elsewhere it is answered REFUSED with the state's code. -/
def Obligations.SegmentCommands : Prop :=
  ∀ (s : State) (f : RxFrame) (rest : List RxFrame), s.entry f.tag = .free →
    let k := s.taken rest
    let g := f.operandSegment
    let c := s.seg g
    let refusal := Host.Outcome.next ((k.placeResponse (f.reply .refused (toWord c.state.code))).finish s)
    let resetting := ∃ n, c.state = .resetting n
    let carries := c.state = .active ∨ c.state = .rejoining
    (Takes s .segmentStart f rest →
      (c.state = .offline ∨ c.state = .faulted → exec .segmentStart s = .next (State.finish
        ((k.setSeg g { c with
          failures := 0, state := .probing c.legTag c.legTimeout f.operandSynced, legTag := c.legTag + 1
          line := c.line ++ [.probe c.legTag] }).placeResponse (f.reply .ok 2)) s)) ∧
      (c.state ≠ .offline → c.state ≠ .faulted → exec .segmentStart s = refusal)) ∧
    (Takes s .segmentSynced f rest →
      (c.state = .rejoining → exec .segmentSynced s = .next (State.finish
        ((k.setSeg g { c with state := .active }).placeResponse (f.reply .ok 4)) s)) ∧
      (c.state ≠ .rejoining → exec .segmentSynced s = refusal)) ∧
    (Takes s .segmentStop f rest →
      (carries → exec .segmentStop s = .next (State.finish
        ((k.outOfService g .offline .segmentStopped).placeResponse (f.reply .ok 0)) s)) ∧
      (¬ carries → c.state ≠ .offline → ¬ resetting → exec .segmentStop s = .next (State.finish
        ((k.setSeg g { c with state := .offline }).placeResponse (f.reply .ok 0)) s)) ∧
      (c.state = .offline ∨ resetting → exec .segmentStop s = refusal)) ∧
    (Takes s .segmentReset f rest →
      (carries → exec .segmentReset s = .next (State.finish
        ((k.outOfService g (.resetting 2000) .segmentStopped).placeResponse (f.reply .ok 1)) s)) ∧
      (¬ carries → ¬ resetting → exec .segmentReset s = .next (State.finish
        ((k.setSeg g { c with state := .resetting 2000 }).placeResponse (f.reply .ok 1)) s)) ∧
      (resetting → exec .segmentReset s = refusal))

/-- An ATTN_REPORT on a segment that carries legs (R155): the four rows of the table. -/
def Obligations.AttentionReportTaken : Prop :=
  ∀ (s : State) (g : SegId) (source : Byte), s.pins.porn = false →
    (s.seg g).state = .active ∨ (s.seg g).state = .rejoining →
    let q := (s.seg g).attention
    let v := s.setSeg g { s.seg g with attention := q ++ [source] }
    (source ∈ q → exec (.attnReport g source) s = .next (s.finish s)) ∧
    (q = [] → exec (.attnReport g source) s = .next (State.finish
      ((v.raise (deviceLevel g) (source.setWidth 32)).count (segCounter g .attentionReports)) s)) ∧
    (source ∉ q → q ≠ [] → q.length < 4 → exec (.attnReport g source) s
      = .next (State.finish (v.count (segCounter g .attentionReports)) s)) ∧
    (source ∉ q → 4 ≤ q.length → exec (.attnReport g source) s
      = .next ((s.count (segCounter g .attentionDropped)).finish s))

/-! ## Control requests -/

/-- A control request whose tag is that of an open entry is answered TAG_IN_USE and not carried out (R36, R181). A
COMMAND whose code is none of the seven is answered MALFORMED and counted (R188, R198). -/
def Obligations.ControlTagAndCode : Prop :=
  (∀ (c : Instr) (row : TakenRow) (s : State) (f : RxFrame) (rest : List RxFrame),
    ControlCommand c row → Takes s row f rest → s.entry f.tag ≠ .free →
    exec c s = .next (((s.taken rest).placeResponse (f.reply .tagInUse 0)).finish s)) ∧
  (∀ f : RxFrame, f.row = .unknownCommandCode ↔ f.structuralKind? = some .command ∧
    f.word1 ∉ [0x01, 0x02, 0x10, 0x11, 0x12, 0x13, 0x20]) ∧
  ∀ (s : State) (f : RxFrame) (rest : List RxFrame), Takes s .unknownCommandCode f rest → s.entry f.tag = .free →
    exec .unknownCommandCode s = .next ((((s.taken rest).placeResponse (f.reply .malformed 0)).count
      (partCounter .framesMalformed)).finish s)

/-- A CWRITE on a free tag (R182, R183, R185): the tests in order, each answered with the lowest address that fails it;
a CWRITE that passes them all writes its span and is answered OK. Which row takes which CWRITE is the model's reading
(log 3): it gives every span that can be accepted to one of the other four rows, so the row CWRITE is never accepted. -/
def Obligations.CwriteAnswers : Prop :=
  ∀ (c : Instr) (row : TakenRow) (s : State) (f : RxFrame) (rest : List RxFrame),
    CwriteCommand c row → Takes s row f rest → s.entry f.tag = .free →
    let k := s.taken rest
    let formed := 1 ≤ f.count ∧ f.count ≤ 16 ∧ f.data.length = f.count
    let unmapped := fun a => controlObject? a = none
    let readOnly := fun a => ∃ o, controlObject? a = some o ∧ o.writable = false
    let draining := fun a => a < 0x80 ∧ 0 < s.wb.inflight s.wb.active.other
    let busy := fun a => ∃ o g, controlObject? a = some o ∧ o.configOf? = some g ∧
      (s.seg g).state ≠ .offline ∧ (s.seg g).state ≠ .faulted
    let outside := fun a => ∃ o x, controlObject? a = some o ∧ f.data[a - f.address.toNat]? = some x ∧
      o.inRange x = false
    let answer := fun (status : Status) (a : Nat) =>
      Host.Outcome.next ((k.placeResponse (f.reply status (toWord a))).finish s)
    let clear := fun p : Nat → Prop => ∀ a ∈ f.span, ¬ p a
    (¬ formed → exec c s = .next
      (((k.placeResponse (f.reply .malformed 0)).count (partCounter .framesMalformed)).finish s)) ∧
    (formed →
      (∀ a, Lowest f.span unmapped a → exec c s = answer .noObject a) ∧
      (∀ a, clear unmapped → Lowest f.span readOnly a → exec c s = answer .access a) ∧
      (∀ a, clear unmapped → clear readOnly → Lowest f.span draining a → exec c s = answer .bankBusy a) ∧
      (∀ a, clear unmapped → clear readOnly → clear draining → Lowest f.span busy a →
        exec c s = answer .refused a) ∧
      (∀ a, clear unmapped → clear readOnly → clear draining → clear busy → Lowest f.span outside a →
        exec c s = answer .refused a) ∧
      (clear unmapped → clear readOnly → clear draining → clear busy → clear outside →
        c ≠ .cwrite ∧ exec c s = .next (((k.writeSpan f).placeResponse (f.reply .ok 0)).finish s)))

/-- An accepted CWRITE (R24, R135, R143, R150, R178, R186): every word of the span reads back as written, in the bits
its fields name; every other word of the control space and all the rest of the part are unchanged. -/
def Obligations.CwriteWrites : Prop :=
  ∀ (s : State) (f : RxFrame), f.data.length = f.count →
    (∀ a ∈ f.span, ∃ o, controlObject? a = some o ∧ o.writable = true) →
    let t := s.writeSpan f
    (∀ (i : Nat) (x : Word) (o : ControlObject), f.data[i]? = some x →
      controlObject? (f.address.toNat + i) = some o →
      t.readObject o = match o with
        | .shadowWord _ j => x &&& WindowRecord.fieldMask j
        | .maskSet => x &&& 0xFF
        | _ => x) ∧
    (∀ o, (∀ a ∈ f.span, controlObject? a ≠ some o) → t.readObject o = s.readObject o) ∧
    t.wb = { s.wb with bankA := t.wb.bankA, bankB := t.wb.bankB } ∧
    (∀ w, t.wb.record s.wb.active w = s.wb.record s.wb.active w) ∧
    (∀ g, t.seg g = { s.seg g with
      sendWindow := (t.seg g).sendWindow, legTimeout := (t.seg g).legTimeout
      faultThreshold := (t.seg g).faultThreshold }) ∧
    (∀ l, t.level l = { s.level l with masked := (t.level l).masked }) ∧
    t.au = { s.au with levels := t.au.levels, interval := t.au.interval } ∧
    t.tp = s.tp ∧ t.tt = s.tt ∧ t.cb = s.cb ∧ t.pins = s.pins ∧ t.pending = s.pending

/-- A CREAD on a free tag (R182 to R184, R201): MALFORMED, NO_OBJECT with the lowest unmapped address, or OK with the
words of its span in address order; a read-and-clear word clears its counter and its saturation flag, and nothing else
changes. That every CREAD is taken by the row COUNTER_READ_AND_CLEAR (log 3), and that the clearing precedes the count
of the answer (log 17), is the model's reading. -/
def Obligations.CreadAnswers : Prop :=
  ∀ (s : State) (f : RxFrame) (rest : List RxFrame),
    Takes s .counterReadAndClear f rest → s.entry f.tag = .free →
    let k := s.taken rest
    let formed := 1 ≤ f.count ∧ f.count ≤ 16 ∧ f.data = []
    let unmapped := fun a => controlObject? a = none
    (¬ formed → exec .counterReadAndClear s = .next
      (((k.placeResponse (f.reply .malformed 0)).count (partCounter .framesMalformed)).finish s)) ∧
    (∀ a, formed → Lowest f.span unmapped a →
      exec .counterReadAndClear s = .next ((k.placeResponse (f.reply .noObject (toWord a))).finish s)) ∧
    (formed → (∀ a ∈ f.span, ¬ unmapped a) → ∃ t : State,
      exec .counterReadAndClear s = .next
        ((t.placeResponse (f.reply .ok 0 (f.span.filterMap fun a => (controlObject? a).map k.readObject))).finish s) ∧
      t = { k with cb.counters := t.cb.counters, cb.saturated := t.cb.saturated } ∧
      ∀ i : Fin 49, if 0x600 + i.val ∈ f.span then t.counter i = 0 ∧ t.cb.saturated[i] = false
        else t.counter i = s.counter i ∧ t.cb.saturated[i] = s.cb.saturated[i])

/-- The control-space map (R163, R179, R194, R195): what every listed address shows, and that no other is mapped. -/
def Obligations.ControlMap : Prop :=
  (∀ s : State,
    let shows := fun (a : Nat) (x : Word) => (controlObject? a).map s.readObject = some x
    (∀ (w : WindowId) (j : Fin 4),
      shows (4 * w.val + j.val) ((s.wb.record s.wb.active.other w).word j) ∧
      shows (0x080 + 4 * w.val + j.val) ((s.wb.record s.wb.active w).word j)) ∧
    shows 0x200 (if s.wb.active = .a then 0 else 1) ∧
    shows 0x201 (s.wb.generation.setWidth 32) ∧
    shows 0x202 (if 0 < s.wb.inflight s.wb.active.other then 1 else 0) ∧
    shows 0x203 (toWord s.wb.inflightA) ∧ shows 0x204 (toWord s.wb.inflightB) ∧
    (∀ g : SegId, let b := 0x300 + 0x20 * g.val
      let c := s.seg g
      shows b (toWord c.sendWindow) ∧ shows (b + 0x01) (toWord c.legTimeout) ∧
      shows (b + 0x02) (toWord c.faultThreshold) ∧
      shows (b + 0x08) (match c.state with
        | .offline => 0
        | .resetting _ => 1
        | .probing _ _ _ => 2
        | .rejoining => 3
        | .active => 4
        | .faulted => 5) ∧
      shows (b + 0x09) (toWord c.queue.length) ∧ shows (b + 0x0A) (toWord c.sent.length) ∧
      shows (b + 0x0B) (toWord c.failures) ∧
      shows (b + 0x0C) (match c.lastFailure with
        | .none => 0
        | .timeout => 1
        | .deviceRefused code => toWord (2 + 256 * code.toNat)
        | .segmentFaulted => 3
        | .segmentStopped => 4) ∧
      (∀ i : Fin 4, shows (b + 0x10 + i.val) ((c.attention[i.val]?.getD 0).setWidth 32)) ∧
      shows (b + 0x14) (toWord c.attention.length)) ∧
    (∃ masks requested service : BitVec 8,
      shows 0x400 (masks.setWidth 32) ∧ shows 0x401 (requested.setWidth 32) ∧ shows 0x402 (service.setWidth 32) ∧
      ∀ l : LevelId, masks.getLsbD l.val = (s.level l).masked ∧
        requested.getLsbD l.val = (s.level l).latch.isSome ∧ service.getLsbD l.val = (s.level l).service.isSome) ∧
    shows 0x403 (s.au.nextSequence.setWidth 32) ∧ shows 0x404 (toWord s.au.interval) ∧
    (∀ l : LevelId,
      shows (0x408 + l.val) (match (s.level l).latch, (s.level l).service with
        | some d, _ => d
        | none, some v => v.detail
        | none, none => 0) ∧
      shows (0x410 + l.val) (match (s.level l).service with
        | some v => v.sequence.setWidth 32
        | none => 0)) ∧
    (∀ i : Fin 49, shows (0x500 + i.val) (s.counter i) ∧ shows (0x600 + i.val) (s.counter i)) ∧
    (∃ low high : Word, shows 0x640 low ∧ shows 0x641 high ∧
      ∀ i : Fin 49, s.cb.saturated[i] = if i.val < 32 then low.getLsbD i.val else high.getLsbD (i.val - 32)) ∧
    shows 0x700 0x00004C44 ∧ shows 0x701 0x00000029 ∧ shows 0x702 0x00000001 ∧ shows 0x703 0x00204202 ∧
    ∀ t : Tag, ∃ x y z u : Word,
      shows (0x800 + 4 * t.val) x ∧ shows (0x801 + 4 * t.val) y ∧ shows (0x802 + 4 * t.val) z ∧
      shows (0x803 + 4 * t.val) u ∧
      match s.entry t with
      | .free => x = 0 ∧ y = 0 ∧ z = 0 ∧ u = 0
      | .flushing b _ => x = 2 ∧ y = 3 ∧ z = 0 ∧ u = toWord b.length
      | .data d =>
        x = (match d.phase with
          | .pending => 1
          | .cancelling => 3
          | .abandoned => 4) ∧
        y = (match d.request with
          | .write _ _ => 2
          | _ => 1) ∧
        z = toWord ((if d.bank = .a then 0 else 256) + d.window.val) ∧
        (d.legs.length ≤ 8 → u = toWord
          (d.legs.countP (fun l => l.state == .queued) + 16 * d.legs.countP (fun l => l.state == .sent)
            + 256 * d.legs.countP (fun l => l.state.isDone)
            + 4096 * d.legs.countP (fun l => l.state.reason?.isSome)
            + 65536 * d.legs.countP (fun l => l.state == .withdrawn)))) ∧
  ∀ a : Nat, controlObject? a = none ↔
    (0x100 ≤ a ∧ a < 0x200) ∨ (0x205 ≤ a ∧ a < 0x300) ∨
    (0x300 ≤ a ∧ a < 0x380 ∧ (3 ≤ a % 0x20 ∧ a % 0x20 < 8 ∨ 0x0D ≤ a % 0x20 ∧ a % 0x20 < 0x10 ∨ 0x15 ≤ a % 0x20)) ∨
    (0x380 ≤ a ∧ a < 0x400) ∨ (0x405 ≤ a ∧ a < 0x408) ∨ (0x418 ≤ a ∧ a < 0x500) ∨ (0x531 ≤ a ∧ a < 0x600) ∨
    (0x631 ≤ a ∧ a < 0x640) ∨ (0x642 ≤ a ∧ a < 0x700) ∨ (0x704 ≤ a ∧ a < 0x800) ∨ 0x880 ≤ a

/-! ## Commands -/

/-- R26. A COMMIT taken while the shadow is DRAINING is refused BANK_BUSY. Else the shadow is validated: the lowest
invalid window is named with its first failing condition (R27), or the roles swap under the next generation, and a
former active bank with no open entry raises level 6 (R28, R29). -/
def Obligations.Commit : Prop :=
  ∀ (s : State) (f : RxFrame) (rest : List RxFrame), Takes s .commit f rest → s.entry f.tag = .free →
    let k := s.taken rest
    let shadow := s.wb.active.other
    (0 < s.wb.inflight shadow → exec .commit s = .next ((k.placeResponse (f.reply .bankBusy 0)).finish s)) ∧
    (s.wb.inflight shadow = 0 →
      (∀ w n, (s.wb.record shadow w).firstFailure? = some n →
        (∀ v, v < w → (s.wb.record shadow v).valid = true) →
        exec .commit s = .next
          ((k.placeResponse (f.reply .bankInvalid (toWord (w.val + 256 * n)))).finish s)) ∧
      ((∀ w, (s.wb.record shadow w).valid = true) →
        let v : State := { k with wb.active := shadow, wb.generation := s.wb.generation + 1 }
        let r := f.reply .ok ((s.wb.generation + 1).setWidth 32)
        (0 < s.wb.inflight s.wb.active → exec .commit s = .next ((v.placeResponse r).finish s)) ∧
        (s.wb.inflight s.wb.active = 0 → exec .commit s = .next
          (((v.raise 6 (if s.wb.active = .a then 0 else 1)).placeResponse r).finish s))))

/-- COPY_ACTIVE (R25): BANK_BUSY while the shadow is DRAINING; else every shadow record becomes the active record of its
index, and the answer carries the generation. -/
def Obligations.CopyActive : Prop :=
  ∀ (s : State) (f : RxFrame) (rest : List RxFrame), Takes s .copyActive f rest → s.entry f.tag = .free →
    let k := s.taken rest
    (0 < s.wb.inflight s.wb.active.other →
      exec .copyActive s = .next ((k.placeResponse (f.reply .bankBusy 0)).finish s)) ∧
    (s.wb.inflight s.wb.active.other = 0 → exec .copyActive s = .next ((State.placeResponse
      { k with wb := { s.wb with
        bankA := if s.wb.active = .a then s.wb.bankA else s.wb.bankB
        bankB := if s.wb.active = .a then s.wb.bankA else s.wb.bankB } }
      (f.reply .ok (s.wb.generation.setWidth 32))).finish s))

/-- A MANAGEMENT_RESET on a free tag (R174, R191): the OK answer is placed, a reset waits, and the receive buffer is
discarded. From that step on, while the reset waits, no frame is taken, the end of no step places an attention frame,
and neither does the expiry of a resend deadline (R161). -/
def Obligations.ManagementReset : Prop :=
  (∀ (s : State) (f : RxFrame) (rest : List RxFrame), Takes s .managementReset f rest → s.entry f.tag = .free →
    let p := (s.taken rest).placeResponse (f.reply .ok 0)
    exec .managementReset s = .next { p with cb.resetWaiting := true, tp.rx := [] }) ∧
  (∀ (s : State) (row : TakenRow) (owner : State → RxFrame → State), s.cb.resetWaiting = true →
    s.takeFrame row owner = s) ∧
  (∀ s before : State, s.cb.resetWaiting = true → s.finish before = s) ∧
  ∀ (s t : State) (l : LevelId), s.cb.resetWaiting = true → exec (.resendDeadlineExpiry l) s = .next t →
    t.tp.tx = s.tp.tx

/-- A RELEASE on a free tag (R151 to R153, R158): MALFORMED above level 7; STALE with nothing changed unless the level is
in service under the sequence quoted; else the level leaves service, a segment's attention queue is served, and the
answer shows the in-service set, before the delivery choice of the end of the step (log 8). -/
def Obligations.Release : Prop :=
  (∀ s : State, s.inServiceSet.toNat < 256 ∧
    ∀ l : LevelId, s.inServiceSet.getLsbD l.val = (s.level l).service.isSome) ∧
  ∀ (s : State) (f : RxFrame) (rest : List RxFrame), Takes s .release f rest → s.entry f.tag = .free →
    let k := s.taken rest
    (8 ≤ f.word1.toNat → exec .release s = .next
      (((k.placeResponse (f.reply .malformed 0)).count (partCounter .framesMalformed)).finish s)) ∧
    ∀ l : LevelId, f.word1.toNat = l.val →
      ((∀ v, (s.level l).service = some v → v.sequence.toNat ≠ f.word2.toNat % 256) →
        exec .release s = .next ((k.placeResponse (f.reply .stale s.inServiceSet)).finish s)) ∧
      ∀ v, (s.level l).service = some v → v.sequence.toNat = f.word2.toNat % 256 →
        let free := k.setLevel l { s.level l with service := none }
        let ends := fun u : State =>
          exec .release s = .next ((u.placeResponse (f.reply .ok free.inServiceSet)).finish s)
        (l.val < 2 ∨ 5 < l.val → ends free) ∧
        ∀ g : SegId, l = deviceLevel g →
          let carries := (s.seg g).state = .active ∨ (s.seg g).state = .rejoining
          (¬ carries ∨ (s.seg g).attention = [] → ends free) ∧
          (∀ head, carries → (s.seg g).attention = [head] →
            ends (free.setSeg g { s.seg g with
              attention := [], line := (s.seg g).line ++ [.attnAck head] })) ∧
          ∀ head next more, carries → (s.seg g).attention = head :: next :: more →
            ends ((free.setSeg g { s.seg g with
              attention := next :: more, line := (s.seg g).line ++ [.attnAck head] }).raise l
                (next.setWidth 32))

/-! ## Attention -/

/-- The end of a step (R144, R145, R149, R171, R200), with ATTENTION_DELIVERY and DEFERRED_RESEND, which make it by
themselves: nothing is placed while the link is DOWN, a reset waits or no place is free; waiting resends take free
places first, lowest level first; then the highest-priority deliverable level enters service under the next sequence
number. That the two rows make the same choice again (log 7), and that the delivery's own count raises level 7 no second
time once another counter has filled in the step (log 19), is the model's reading. -/
def Obligations.EndOfStep : Prop :=
  (∀ s, s.pins.porn = false →
    exec .attentionDelivery s = .next (s.finish s) ∧ exec .deferredResend s = .next (s.finish s)) ∧
  (∀ s before : State, s.pins.porn = true ∨ s.tp.link = .down ∨ s.cb.resetWaiting = true ∨ s.freePlaces = 0 →
    s.finish before = s) ∧
  ∀ s before : State, s.pins.porn = false → s.tp.link = .up → s.cb.resetWaiting = false → 0 < s.freePlaces →
    let started := if s.au.interval = 0 then Deadline.off else .running (s.au.interval * 1000)
    let waits := fun l => ∃ v, (s.level l).service = some v ∧ v.deadline = .waiting
    let deliverable := fun l => (s.level l).latch ≠ none ∧ (s.level l).masked = false ∧
      (s.level l).service = none ∧ ∀ m, (s.level m).service ≠ none → l < m
    (∀ l v, (s.level l).service = some v → v.deadline = .waiting → (∀ m, m < l → ¬ waits m) →
      let r := s.setLevel l { s.level l with service := some { v with deadline := started } }
      s.finish before = State.finish (State.count
        { r with tp.tx := s.tp.tx ++ [.attention l v.sequence v.detail] } (partCounter .attentionResends)) before) ∧
    ((∀ l, ¬ waits l) → (∀ l, ¬ deliverable l) → s.finish before = s) ∧
    ∀ l detail, (∀ m, ¬ waits m) → deliverable l → (∀ m, m < l → ¬ deliverable m) → (s.level l).latch = some detail →
      let q := s.au.nextSequence
      let r := s.setLevel l
        { latch := none, masked := false, service := some { sequence := q, detail := detail, deadline := started } }
      let t : State := { r with au.nextSequence := q + 1, tp.tx := s.tp.tx ++ [.attention l q detail] }
      ∃ told : Bool, (told = true ↔ ∃ i : Fin 49, s.cb.saturated[i] = true ∧ before.cb.saturated[i] = false) ∧
        s.finish before = t.count (partCounter .attentionFramesSent) told

/-- A resend deadline runs out (R149, R161): the frame is placed again with the same level, sequence and detail, the
deadline starts anew and the resend is counted; without a free place it waits; while a reset waits it ends. That time
left passes for every timer (log 4), and that nothing changes for a level with no running deadline (log 3), is the
model's choice. -/
def Obligations.ResendDeadlineExpiry : Prop :=
  (∀ s l v n, s.pins.porn = false → (s.level l).service = some v → v.deadline = .running n →
    n = 0 ∨ s.pins.refclk = true →
    let e := s.elapse n
    let left := fun d : Deadline => e.setLevel l { s.level l with service := some { v with deadline := d } }
    let started := if s.au.interval = 0 then Deadline.off else .running (s.au.interval * 1000)
    let may := s.tp.link = .up ∧ 0 < s.freePlaces
    (s.cb.resetWaiting = true → exec (.resendDeadlineExpiry l) s = .next (left .off)) ∧
    (s.cb.resetWaiting = false → may → exec (.resendDeadlineExpiry l) s = .next (State.finish (State.count
      { left started with tp.tx := s.tp.tx ++ [.attention l v.sequence v.detail] }
      (partCounter .attentionResends)) e)) ∧
    (s.cb.resetWaiting = false → ¬ may → exec (.resendDeadlineExpiry l) s = .next (left .waiting))) ∧
  ∀ s l, (∀ v n, (s.level l).service = some v → v.deadline ≠ .running n) →
    exec (.resendDeadlineExpiry l) s = .next s

/-- One count (R196, R199, R200): a counter at 4,294,967,295 does not rise; a count that brings it there adds it to the
saturated set and raises level 7 with detail 0, once in a step; no other state changes. -/
def Obligations.CountSaturates : Prop :=
  ∀ (s : State) (i : Fin 49) (told : Bool),
    let risen : State := { s with cb.counters := s.cb.counters.set i (s.counter i + 1) }
    (s.counter i = 0xFFFFFFFF → s.count i told = s) ∧
    (s.counter i ≠ 0xFFFFFFFF → s.counter i ≠ 0xFFFFFFFE → s.count i told = risen) ∧
    (s.counter i = 0xFFFFFFFE →
      let full : State := { risen with cb.saturated := s.cb.saturated.set i true }
      s.count i told = if told = true then full else full.raise 7 0)

/-! ## Formats and invariants -/

/-- Formats (R166, R175 to R178): a received frame's words are read back as the frame, and only its words are; a
request's header fields are read as they were composed; an upstream frame likewise; a record's four words written into
any record give that record. The words of each frame the part sends, on the trunk and on a segment link, with its kind
code, its fields at their bits, its status code, zero in the bits no field names, and a check word at the end. -/
def Obligations.FormatsRoundTrip : Prop :=
  (∀ (words : List Word) (f : RxFrame), RxFrame.ofWords? words = some f ↔ words = f.words) ∧
  (∀ (k : RequestKind) (t : Tag) (n : Nat) (payload : List Word), n < 32 → payload.length < 32 →
    let f := RxFrame.ofRequest k t n payload
    f.kindCode = k.code ∧ f.tag = t ∧ f.count = n ∧ f.lengthField = payload.length ∧
      (k.lengthAllowed payload.length = true → f.structuralKind? = some k)) ∧
  (∀ u : UpFrame, (∀ t d, u = .legDone t d → d.length ≤ 16) → UpFrame.ofWords? u.words = some u) ∧
  (∀ v w : WindowRecord, (((v.writeWord 0 (w.word 0)).writeWord 1 (w.word 1)).writeWord 2 (w.word 2)).writeWord 3
    (w.word 3) = w) ∧
  (∀ (w : WindowRecord) (j i : Fin 4) (x : Word),
    (w.writeWord j x).word i = if i = j then x &&& WindowRecord.fieldMask j else w.word i) ∧
  (∀ ws : List Word, withCheck ws = ws ++ [checkWord ws]) ∧
  [Status.ok, .partly, .failed, .cancelled, .voteFail, .noWindow, .access, .boundary, .segmentUnavailable, .busy,
    .tagInUse, .malformed, .noObject, .bankBusy, .bankInvalid, .refused, .noSuchTag, .stale, .accepted].map Status.code
      = List.range 19 ∧
  (∀ r : Response, r.data.length ≤ 16 →
    TxFrame.words (.response r) = withCheck (
      toWord (0x80000000 + 0x10000 * r.tag.val + 0x100 * r.data.length + (2 + r.data.length)) ::
      toWord (0x1000000 * r.kind.toNat + 0x10000 * r.status.code + 0x100 * r.applied.toNat + 0x10 * r.skipped.toNat
        + r.dissent.toNat) :: r.detail :: r.data)) ∧
  (∀ (l : LevelId) (q : Byte) (d : Word),
    TxFrame.words (.attention l q d) = withCheck [0x81000002, toWord (0x10000 * q.toNat + l.val), d]) ∧
  (∀ (t : LegTag) (a : SegAddr) (d : List Word), d.length ≤ 16 →
    DownFrame.words (.legWrite t a d) = withCheck (
      toWord (0x10000000 + 0x1000000 * t.val + 0x10000 * d.length) :: toWord a.toNat :: d)) ∧
  (∀ (t : LegTag) (a : SegAddr) (n : Nat), n ≤ 16 →
    DownFrame.words (.legRead t a n) = withCheck [
      toWord (0x20000000 + 0x1000000 * t.val + 0x10000 * n), toWord a.toNat]) ∧
  (∀ t : LegTag, DownFrame.words (.probe t) = withCheck [toWord (0x30000000 + 0x1000000 * t.val), 0]) ∧
  ∀ source : Byte, DownFrame.words (.attnAck source) = withCheck [0x40000000, toWord source.toNat]

/-- The state after power-on reset has every invariant. -/
def Obligations.ResetSatisfiesInvariants : Prop :=
  let s := State.reset
  s.SaturationExact ∧ s.ActiveValid ∧ s.ConfigInRange ∧ (∀ g, State.SlotsKept (s.seg g)) ∧
  (∀ g, State.ReportsServed (s.seg g) (s.level (deviceLevel g))) ∧ s.PlacesKept ∧ s.InflightExact ∧ s.BarriersOpen ∧
  s.LegsPlaced ∧ s.Withdrawn

/-- Every step keeps (R18, R135, R150, R199): a counter is in the saturated set exactly while it holds its largest
value, the active bank holds only valid records, and the configuration stays in range. -/
def Obligations.StepKeepsTables : Prop :=
  ∀ s t : State, s.SaturationExact → s.ActiveValid → s.ConfigInRange → step s = .next t →
    t.SaturationExact ∧ t.ActiveValid ∧ t.ConfigInRange

/-- Every step keeps (R20, R21, R34, R43, R51, R167, R168): held places are those of the open entries and never exceed
the 64 with the occupied ones; each bank's count is the number of entries open under it; a FLUSH waits for open entries
other than itself. -/
def Obligations.StepKeepsEntries : Prop :=
  ∀ s t : State, s.PlacesKept → s.InflightExact → s.BarriersOpen → step s = .next t →
    t.PlacesKept ∧ t.InflightExact ∧ t.BarriersOpen

/-- Every step keeps (R100, R102 to R104, R124, R153, R155): queued and sent legs fit the slots, sent legs fit the send
window, leg tags differ, a segment that carries nothing holds nothing, and its attention queue has at most 4 ids, none
twice, served by its level. -/
def Obligations.StepKeepsSegments : Prop :=
  let inv := fun s : State =>
    ∀ g, State.SlotsKept (s.seg g) ∧ State.ReportsServed (s.seg g) (s.level (deviceLevel g))
  ∀ s t : State, inv s → step s = .next t → inv t

/-- Every step keeps (R44, R54, R57): every leg of an open entry stands in exactly one place, its segment's queue while
QUEUED, its sent list while SENT, and nothing else stands there; a CANCELLING or ABANDONED entry has no QUEUED leg and
no wait. The slots' invariant is a premise that `StepKeepsSegments` states to be kept. -/
def Obligations.StepKeepsLegs : Prop :=
  ∀ s t : State, s.LegsPlaced → s.Withdrawn → (∀ g, State.SlotsKept (s.seg g)) → step s = .next t →
    t.LegsPlaced ∧ t.Withdrawn
end

