-- ==== Sys2Proof/Laws/State.lean ====
section
/-! SUPPORT. One lemma per field per update of State, and the read-after-write lemmas of its accessors. -/

namespace Sys2Proof.Machine.State

/-! ## Reading an accessor after a write -/

@[simp] theorem seg_setSeg_self (s : State) (g : SegId) (c : SegCtl) : (s.setSeg g c).seg g = c := by
  simp [seg, setSeg]

theorem seg_setSeg_of_ne (s : State) {g h : SegId} (c : SegCtl) (ne : h ≠ g) :
    (s.setSeg g c).seg h = s.seg h := by
  simp [seg, setSeg, Fin.val_inj, ne.symm]

theorem seg_setSeg (s : State) (g h : SegId) (c : SegCtl) :
    (s.setSeg g c).seg h = if h = g then c else s.seg h := by
  split
  · subst h; simp
  · exact seg_setSeg_of_ne s c ‹_›

@[simp] theorem entry_setEntry_self (s : State) (t : Tag) (e : Entry) : (s.setEntry t e).entry t = e := by
  simp [entry, setEntry]

theorem entry_setEntry_of_ne (s : State) {t u : Tag} (e : Entry) (ne : u ≠ t) :
    (s.setEntry t e).entry u = s.entry u := by
  simp [entry, setEntry, Fin.val_inj, ne.symm]

theorem entry_setEntry (s : State) (t u : Tag) (e : Entry) :
    (s.setEntry t e).entry u = if u = t then e else s.entry u := by
  split
  · subst u; simp
  · exact entry_setEntry_of_ne s e ‹_›

@[simp] theorem level_setLevel_self (s : State) (l : LevelId) (lv : Level) : (s.setLevel l lv).level l = lv := by
  simp [level, setLevel]

theorem level_setLevel_of_ne (s : State) {l m : LevelId} (lv : Level) (ne : m ≠ l) :
    (s.setLevel l lv).level m = s.level m := by
  simp [level, setLevel, Fin.val_inj, ne.symm]

theorem level_setLevel (s : State) (l m : LevelId) (lv : Level) :
    (s.setLevel l lv).level m = if m = l then lv else s.level m := by
  split
  · subst m; simp
  · exact level_setLevel_of_ne s lv ‹_›

/-- Freeing an entry makes it FREE and takes its tag out of every other entry's barrier set (R49). -/
theorem entry_clearEntry (s : State) (t u : Tag) :
    (s.clearEntry t).entry u = if u = t then .free else (s.entry u).dropBarrierTag t := by
  simp only [clearEntry, entry, Fin.getElem_fin, Vector.getElem_map, Vector.getElem_set, Fin.val_inj]
  by_cases h : t = u
  · simp [h, Entry.dropBarrierTag]
  · simp [h, Ne.symm h]

/-- An accessor reads only its own block. -/
theorem seg_eq_of_sc {s u : State} (h : u.sc = s.sc) (g : SegId) : u.seg g = s.seg g := by simp [seg, h]

theorem entry_eq_of_tt {s u : State} (h : u.tt = s.tt) (t : Tag) : u.entry t = s.entry t := by simp [entry, h]

theorem level_eq_of_levels {s u : State} (h : u.au.levels = s.au.levels) (l : LevelId) :
    u.level l = s.level l := by simp [level, h]

/-! ## Fields an update leaves alone -/

@[simp] theorem setSeg_pins (s : State) (g : SegId) (c : SegCtl) : (s.setSeg g c).pins = s.pins := rfl
@[simp] theorem setSeg_tp (s : State) (g : SegId) (c : SegCtl) : (s.setSeg g c).tp = s.tp := rfl
@[simp] theorem setSeg_wb (s : State) (g : SegId) (c : SegCtl) : (s.setSeg g c).wb = s.wb := rfl
@[simp] theorem setSeg_tt (s : State) (g : SegId) (c : SegCtl) : (s.setSeg g c).tt = s.tt := rfl
@[simp] theorem setSeg_au (s : State) (g : SegId) (c : SegCtl) : (s.setSeg g c).au = s.au := rfl
@[simp] theorem setSeg_cb (s : State) (g : SegId) (c : SegCtl) : (s.setSeg g c).cb = s.cb := rfl
@[simp] theorem setSeg_pending (s : State) (g : SegId) (c : SegCtl) : (s.setSeg g c).pending = s.pending := rfl
@[simp] theorem setSeg_entry (s : State) (g : SegId) (c : SegCtl) (t' : Tag) : (s.setSeg g c).entry t' = s.entry t' := rfl
@[simp] theorem setSeg_level (s : State) (g : SegId) (c : SegCtl) (l' : LevelId) : (s.setSeg g c).level l' = s.level l' := rfl
@[simp] theorem setSeg_counter (s : State) (g : SegId) (c : SegCtl) (j : Fin 49) : (s.setSeg g c).counter j = s.counter j := rfl

@[simp] theorem setEntry_pins (s : State) (t : Tag) (e : Entry) : (s.setEntry t e).pins = s.pins := rfl
@[simp] theorem setEntry_tp (s : State) (t : Tag) (e : Entry) : (s.setEntry t e).tp = s.tp := rfl
@[simp] theorem setEntry_wb (s : State) (t : Tag) (e : Entry) : (s.setEntry t e).wb = s.wb := rfl
@[simp] theorem setEntry_sc (s : State) (t : Tag) (e : Entry) : (s.setEntry t e).sc = s.sc := rfl
@[simp] theorem setEntry_au (s : State) (t : Tag) (e : Entry) : (s.setEntry t e).au = s.au := rfl
@[simp] theorem setEntry_cb (s : State) (t : Tag) (e : Entry) : (s.setEntry t e).cb = s.cb := rfl
@[simp] theorem setEntry_pending (s : State) (t : Tag) (e : Entry) : (s.setEntry t e).pending = s.pending := rfl
@[simp] theorem setEntry_seg (s : State) (t : Tag) (e : Entry) (g' : SegId) : (s.setEntry t e).seg g' = s.seg g' := rfl
@[simp] theorem setEntry_level (s : State) (t : Tag) (e : Entry) (l' : LevelId) : (s.setEntry t e).level l' = s.level l' := rfl
@[simp] theorem setEntry_counter (s : State) (t : Tag) (e : Entry) (j : Fin 49) : (s.setEntry t e).counter j = s.counter j := rfl

@[simp] theorem setLevel_pins (s : State) (l : LevelId) (lv : Level) : (s.setLevel l lv).pins = s.pins := rfl
@[simp] theorem setLevel_tp (s : State) (l : LevelId) (lv : Level) : (s.setLevel l lv).tp = s.tp := rfl
@[simp] theorem setLevel_wb (s : State) (l : LevelId) (lv : Level) : (s.setLevel l lv).wb = s.wb := rfl
@[simp] theorem setLevel_tt (s : State) (l : LevelId) (lv : Level) : (s.setLevel l lv).tt = s.tt := rfl
@[simp] theorem setLevel_sc (s : State) (l : LevelId) (lv : Level) : (s.setLevel l lv).sc = s.sc := rfl
@[simp] theorem setLevel_cb (s : State) (l : LevelId) (lv : Level) : (s.setLevel l lv).cb = s.cb := rfl
@[simp] theorem setLevel_pending (s : State) (l : LevelId) (lv : Level) : (s.setLevel l lv).pending = s.pending := rfl
@[simp] theorem setLevel_au_nextSequence (s : State) (l : LevelId) (lv : Level) : (s.setLevel l lv).au.nextSequence = s.au.nextSequence := rfl
@[simp] theorem setLevel_au_interval (s : State) (l : LevelId) (lv : Level) : (s.setLevel l lv).au.interval = s.au.interval := rfl
@[simp] theorem setLevel_seg (s : State) (l : LevelId) (lv : Level) (g' : SegId) : (s.setLevel l lv).seg g' = s.seg g' := rfl
@[simp] theorem setLevel_entry (s : State) (l : LevelId) (lv : Level) (t' : Tag) : (s.setLevel l lv).entry t' = s.entry t' := rfl
@[simp] theorem setLevel_counter (s : State) (l : LevelId) (lv : Level) (j : Fin 49) : (s.setLevel l lv).counter j = s.counter j := rfl

@[simp] theorem raise_pins (s : State) (l : LevelId) (d : Word) : (s.raise l d).pins = s.pins := rfl
@[simp] theorem raise_tp (s : State) (l : LevelId) (d : Word) : (s.raise l d).tp = s.tp := rfl
@[simp] theorem raise_wb (s : State) (l : LevelId) (d : Word) : (s.raise l d).wb = s.wb := rfl
@[simp] theorem raise_tt (s : State) (l : LevelId) (d : Word) : (s.raise l d).tt = s.tt := rfl
@[simp] theorem raise_sc (s : State) (l : LevelId) (d : Word) : (s.raise l d).sc = s.sc := rfl
@[simp] theorem raise_cb (s : State) (l : LevelId) (d : Word) : (s.raise l d).cb = s.cb := rfl
@[simp] theorem raise_pending (s : State) (l : LevelId) (d : Word) : (s.raise l d).pending = s.pending := rfl
@[simp] theorem raise_au_nextSequence (s : State) (l : LevelId) (d : Word) : (s.raise l d).au.nextSequence = s.au.nextSequence := rfl
@[simp] theorem raise_au_interval (s : State) (l : LevelId) (d : Word) : (s.raise l d).au.interval = s.au.interval := rfl
@[simp] theorem raise_seg (s : State) (l : LevelId) (d : Word) (g' : SegId) : (s.raise l d).seg g' = s.seg g' := rfl
@[simp] theorem raise_entry (s : State) (l : LevelId) (d : Word) (t' : Tag) : (s.raise l d).entry t' = s.entry t' := rfl
@[simp] theorem raise_counter (s : State) (l : LevelId) (d : Word) (j : Fin 49) : (s.raise l d).counter j = s.counter j := rfl

@[simp] theorem count_pins (s : State) (i : Fin 49) (told : Bool) : (s.count i told).pins = s.pins := rfl
@[simp] theorem count_tp (s : State) (i : Fin 49) (told : Bool) : (s.count i told).tp = s.tp := rfl
@[simp] theorem count_wb (s : State) (i : Fin 49) (told : Bool) : (s.count i told).wb = s.wb := rfl
@[simp] theorem count_tt (s : State) (i : Fin 49) (told : Bool) : (s.count i told).tt = s.tt := rfl
@[simp] theorem count_sc (s : State) (i : Fin 49) (told : Bool) : (s.count i told).sc = s.sc := rfl
@[simp] theorem count_pending (s : State) (i : Fin 49) (told : Bool) : (s.count i told).pending = s.pending := rfl
@[simp] theorem count_au_nextSequence (s : State) (i : Fin 49) (told : Bool) : (s.count i told).au.nextSequence = s.au.nextSequence := rfl
@[simp] theorem count_au_interval (s : State) (i : Fin 49) (told : Bool) : (s.count i told).au.interval = s.au.interval := rfl
@[simp] theorem count_cb_resetWaiting (s : State) (i : Fin 49) (told : Bool) : (s.count i told).cb.resetWaiting = s.cb.resetWaiting := rfl
@[simp] theorem count_seg (s : State) (i : Fin 49) (told : Bool) (g' : SegId) : (s.count i told).seg g' = s.seg g' := rfl
@[simp] theorem count_entry (s : State) (i : Fin 49) (told : Bool) (t' : Tag) : (s.count i told).entry t' = s.entry t' := rfl

@[simp] theorem placeResponse_pins (s : State) (r : Response) : (s.placeResponse r).pins = s.pins := rfl
@[simp] theorem placeResponse_wb (s : State) (r : Response) : (s.placeResponse r).wb = s.wb := rfl
@[simp] theorem placeResponse_tt (s : State) (r : Response) : (s.placeResponse r).tt = s.tt := rfl
@[simp] theorem placeResponse_sc (s : State) (r : Response) : (s.placeResponse r).sc = s.sc := rfl
@[simp] theorem placeResponse_pending (s : State) (r : Response) : (s.placeResponse r).pending = s.pending := rfl
@[simp] theorem placeResponse_au_nextSequence (s : State) (r : Response) : (s.placeResponse r).au.nextSequence = s.au.nextSequence := rfl
@[simp] theorem placeResponse_au_interval (s : State) (r : Response) : (s.placeResponse r).au.interval = s.au.interval := rfl
@[simp] theorem placeResponse_cb_resetWaiting (s : State) (r : Response) : (s.placeResponse r).cb.resetWaiting = s.cb.resetWaiting := rfl
@[simp] theorem placeResponse_tp_link (s : State) (r : Response) : (s.placeResponse r).tp.link = s.tp.link := rfl
@[simp] theorem placeResponse_tp_qualifying (s : State) (r : Response) : (s.placeResponse r).tp.qualifying = s.tp.qualifying := rfl
@[simp] theorem placeResponse_tp_loss (s : State) (r : Response) : (s.placeResponse r).tp.loss = s.tp.loss := rfl
@[simp] theorem placeResponse_tp_rx (s : State) (r : Response) : (s.placeResponse r).tp.rx = s.tp.rx := rfl
@[simp] theorem placeResponse_tp_wire (s : State) (r : Response) : (s.placeResponse r).tp.wire = s.tp.wire := rfl
@[simp] theorem placeResponse_seg (s : State) (r : Response) (g' : SegId) : (s.placeResponse r).seg g' = s.seg g' := rfl
@[simp] theorem placeResponse_entry (s : State) (r : Response) (t' : Tag) : (s.placeResponse r).entry t' = s.entry t' := rfl

@[simp] theorem releaseHold_pins (s : State) : (s.releaseHold).pins = s.pins := rfl
@[simp] theorem releaseHold_wb (s : State) : (s.releaseHold).wb = s.wb := rfl
@[simp] theorem releaseHold_tt (s : State) : (s.releaseHold).tt = s.tt := rfl
@[simp] theorem releaseHold_sc (s : State) : (s.releaseHold).sc = s.sc := rfl
@[simp] theorem releaseHold_au (s : State) : (s.releaseHold).au = s.au := rfl
@[simp] theorem releaseHold_cb (s : State) : (s.releaseHold).cb = s.cb := rfl
@[simp] theorem releaseHold_pending (s : State) : (s.releaseHold).pending = s.pending := rfl
@[simp] theorem releaseHold_tp_link (s : State) : (s.releaseHold).tp.link = s.tp.link := rfl
@[simp] theorem releaseHold_tp_qualifying (s : State) : (s.releaseHold).tp.qualifying = s.tp.qualifying := rfl
@[simp] theorem releaseHold_tp_loss (s : State) : (s.releaseHold).tp.loss = s.tp.loss := rfl
@[simp] theorem releaseHold_tp_rx (s : State) : (s.releaseHold).tp.rx = s.tp.rx := rfl
@[simp] theorem releaseHold_tp_tx (s : State) : (s.releaseHold).tp.tx = s.tp.tx := rfl
@[simp] theorem releaseHold_tp_wire (s : State) : (s.releaseHold).tp.wire = s.tp.wire := rfl
@[simp] theorem releaseHold_seg (s : State) (g' : SegId) : (s.releaseHold).seg g' = s.seg g' := rfl
@[simp] theorem releaseHold_entry (s : State) (t' : Tag) : (s.releaseHold).entry t' = s.entry t' := rfl
@[simp] theorem releaseHold_level (s : State) (l' : LevelId) : (s.releaseHold).level l' = s.level l' := rfl
@[simp] theorem releaseHold_counter (s : State) (j : Fin 49) : (s.releaseHold).counter j = s.counter j := rfl

@[simp] theorem placeOnLine_pins (s : State) (g : SegId) (f : DownFrame) : (s.placeOnLine g f).pins = s.pins := rfl
@[simp] theorem placeOnLine_tp (s : State) (g : SegId) (f : DownFrame) : (s.placeOnLine g f).tp = s.tp := rfl
@[simp] theorem placeOnLine_wb (s : State) (g : SegId) (f : DownFrame) : (s.placeOnLine g f).wb = s.wb := rfl
@[simp] theorem placeOnLine_tt (s : State) (g : SegId) (f : DownFrame) : (s.placeOnLine g f).tt = s.tt := rfl
@[simp] theorem placeOnLine_au (s : State) (g : SegId) (f : DownFrame) : (s.placeOnLine g f).au = s.au := rfl
@[simp] theorem placeOnLine_cb (s : State) (g : SegId) (f : DownFrame) : (s.placeOnLine g f).cb = s.cb := rfl
@[simp] theorem placeOnLine_pending (s : State) (g : SegId) (f : DownFrame) : (s.placeOnLine g f).pending = s.pending := rfl
@[simp] theorem placeOnLine_entry (s : State) (g : SegId) (f : DownFrame) (t' : Tag) : (s.placeOnLine g f).entry t' = s.entry t' := rfl
@[simp] theorem placeOnLine_level (s : State) (g : SegId) (f : DownFrame) (l' : LevelId) : (s.placeOnLine g f).level l' = s.level l' := rfl
@[simp] theorem placeOnLine_counter (s : State) (g : SegId) (f : DownFrame) (j : Fin 49) : (s.placeOnLine g f).counter j = s.counter j := rfl

@[simp] theorem placeAttention_pins (s : State) (l : LevelId) (q : Byte) (d : Word) : (s.placeAttention l q d).pins = s.pins := rfl
@[simp] theorem placeAttention_wb (s : State) (l : LevelId) (q : Byte) (d : Word) : (s.placeAttention l q d).wb = s.wb := rfl
@[simp] theorem placeAttention_tt (s : State) (l : LevelId) (q : Byte) (d : Word) : (s.placeAttention l q d).tt = s.tt := rfl
@[simp] theorem placeAttention_sc (s : State) (l : LevelId) (q : Byte) (d : Word) : (s.placeAttention l q d).sc = s.sc := rfl
@[simp] theorem placeAttention_au (s : State) (l : LevelId) (q : Byte) (d : Word) : (s.placeAttention l q d).au = s.au := rfl
@[simp] theorem placeAttention_cb (s : State) (l : LevelId) (q : Byte) (d : Word) : (s.placeAttention l q d).cb = s.cb := rfl
@[simp] theorem placeAttention_pending (s : State) (l : LevelId) (q : Byte) (d : Word) : (s.placeAttention l q d).pending = s.pending := rfl
@[simp] theorem placeAttention_tp_link (s : State) (l : LevelId) (q : Byte) (d : Word) : (s.placeAttention l q d).tp.link = s.tp.link := rfl
@[simp] theorem placeAttention_tp_qualifying (s : State) (l : LevelId) (q : Byte) (d : Word) : (s.placeAttention l q d).tp.qualifying = s.tp.qualifying := rfl
@[simp] theorem placeAttention_tp_loss (s : State) (l : LevelId) (q : Byte) (d : Word) : (s.placeAttention l q d).tp.loss = s.tp.loss := rfl
@[simp] theorem placeAttention_tp_rx (s : State) (l : LevelId) (q : Byte) (d : Word) : (s.placeAttention l q d).tp.rx = s.tp.rx := rfl
@[simp] theorem placeAttention_tp_held (s : State) (l : LevelId) (q : Byte) (d : Word) : (s.placeAttention l q d).tp.held = s.tp.held := rfl
@[simp] theorem placeAttention_tp_wire (s : State) (l : LevelId) (q : Byte) (d : Word) : (s.placeAttention l q d).tp.wire = s.tp.wire := rfl
@[simp] theorem placeAttention_seg (s : State) (l : LevelId) (q : Byte) (d : Word) (g' : SegId) : (s.placeAttention l q d).seg g' = s.seg g' := rfl
@[simp] theorem placeAttention_entry (s : State) (l : LevelId) (q : Byte) (d : Word) (t' : Tag) : (s.placeAttention l q d).entry t' = s.entry t' := rfl
@[simp] theorem placeAttention_level (s : State) (l : LevelId) (q : Byte) (d : Word) (l' : LevelId) : (s.placeAttention l q d).level l' = s.level l' := rfl
@[simp] theorem placeAttention_counter (s : State) (l : LevelId) (q : Byte) (d : Word) (j : Fin 49) : (s.placeAttention l q d).counter j = s.counter j := rfl

@[simp] theorem countIn_pins (s : State) (which : Bank) : (s.countIn which).pins = s.pins := rfl
@[simp] theorem countIn_tp (s : State) (which : Bank) : (s.countIn which).tp = s.tp := rfl
@[simp] theorem countIn_tt (s : State) (which : Bank) : (s.countIn which).tt = s.tt := rfl
@[simp] theorem countIn_sc (s : State) (which : Bank) : (s.countIn which).sc = s.sc := rfl
@[simp] theorem countIn_au (s : State) (which : Bank) : (s.countIn which).au = s.au := rfl
@[simp] theorem countIn_cb (s : State) (which : Bank) : (s.countIn which).cb = s.cb := rfl
@[simp] theorem countIn_pending (s : State) (which : Bank) : (s.countIn which).pending = s.pending := rfl
@[simp] theorem countIn_seg (s : State) (which : Bank) (g' : SegId) : (s.countIn which).seg g' = s.seg g' := rfl
@[simp] theorem countIn_entry (s : State) (which : Bank) (t' : Tag) : (s.countIn which).entry t' = s.entry t' := rfl
@[simp] theorem countIn_level (s : State) (which : Bank) (l' : LevelId) : (s.countIn which).level l' = s.level l' := rfl
@[simp] theorem countIn_counter (s : State) (which : Bank) (j : Fin 49) : (s.countIn which).counter j = s.counter j := rfl

@[simp] theorem clearEntry_pins (s : State) (t : Tag) : (s.clearEntry t).pins = s.pins := rfl
@[simp] theorem clearEntry_tp (s : State) (t : Tag) : (s.clearEntry t).tp = s.tp := rfl
@[simp] theorem clearEntry_wb (s : State) (t : Tag) : (s.clearEntry t).wb = s.wb := rfl
@[simp] theorem clearEntry_sc (s : State) (t : Tag) : (s.clearEntry t).sc = s.sc := rfl
@[simp] theorem clearEntry_au (s : State) (t : Tag) : (s.clearEntry t).au = s.au := rfl
@[simp] theorem clearEntry_cb (s : State) (t : Tag) : (s.clearEntry t).cb = s.cb := rfl
@[simp] theorem clearEntry_pending (s : State) (t : Tag) : (s.clearEntry t).pending = s.pending := rfl
@[simp] theorem clearEntry_seg (s : State) (t : Tag) (g' : SegId) : (s.clearEntry t).seg g' = s.seg g' := rfl
@[simp] theorem clearEntry_level (s : State) (t : Tag) (l' : LevelId) : (s.clearEntry t).level l' = s.level l' := rfl
@[simp] theorem clearEntry_counter (s : State) (t : Tag) (j : Fin 49) : (s.clearEntry t).counter j = s.counter j := rfl

@[simp] theorem attentionLoss_pins (s : State) : (s.attentionLoss).pins = s.pins := rfl
@[simp] theorem attentionLoss_tp (s : State) : (s.attentionLoss).tp = s.tp := rfl
@[simp] theorem attentionLoss_wb (s : State) : (s.attentionLoss).wb = s.wb := rfl
@[simp] theorem attentionLoss_tt (s : State) : (s.attentionLoss).tt = s.tt := rfl
@[simp] theorem attentionLoss_sc (s : State) : (s.attentionLoss).sc = s.sc := rfl
@[simp] theorem attentionLoss_cb (s : State) : (s.attentionLoss).cb = s.cb := rfl
@[simp] theorem attentionLoss_pending (s : State) : (s.attentionLoss).pending = s.pending := rfl
@[simp] theorem attentionLoss_au_nextSequence (s : State) : (s.attentionLoss).au.nextSequence = s.au.nextSequence := rfl
@[simp] theorem attentionLoss_au_interval (s : State) : (s.attentionLoss).au.interval = s.au.interval := rfl
@[simp] theorem attentionLoss_seg (s : State) (g' : SegId) : (s.attentionLoss).seg g' = s.seg g' := rfl
@[simp] theorem attentionLoss_entry (s : State) (t' : Tag) : (s.attentionLoss).entry t' = s.entry t' := rfl
@[simp] theorem attentionLoss_counter (s : State) (j : Fin 49) : (s.attentionLoss).counter j = s.counter j := rfl

@[simp] theorem attentionReset_pins (s : State) : (s.attentionReset).pins = s.pins := rfl
@[simp] theorem attentionReset_tp (s : State) : (s.attentionReset).tp = s.tp := rfl
@[simp] theorem attentionReset_wb (s : State) : (s.attentionReset).wb = s.wb := rfl
@[simp] theorem attentionReset_tt (s : State) : (s.attentionReset).tt = s.tt := rfl
@[simp] theorem attentionReset_sc (s : State) : (s.attentionReset).sc = s.sc := rfl
@[simp] theorem attentionReset_cb (s : State) : (s.attentionReset).cb = s.cb := rfl
@[simp] theorem attentionReset_pending (s : State) : (s.attentionReset).pending = s.pending := rfl
@[simp] theorem attentionReset_au_interval (s : State) : (s.attentionReset).au.interval = s.au.interval := rfl
@[simp] theorem attentionReset_seg (s : State) (g' : SegId) : (s.attentionReset).seg g' = s.seg g' := rfl
@[simp] theorem attentionReset_entry (s : State) (t' : Tag) : (s.attentionReset).entry t' = s.entry t' := rfl
@[simp] theorem attentionReset_counter (s : State) (j : Fin 49) : (s.attentionReset).counter j = s.counter j := rfl

@[simp] theorem deliver_pins (s : State) (told : Bool) (l : LevelId) (d : Word) : (s.deliver told l d).pins = s.pins := rfl
@[simp] theorem deliver_wb (s : State) (told : Bool) (l : LevelId) (d : Word) : (s.deliver told l d).wb = s.wb := rfl
@[simp] theorem deliver_tt (s : State) (told : Bool) (l : LevelId) (d : Word) : (s.deliver told l d).tt = s.tt := rfl
@[simp] theorem deliver_sc (s : State) (told : Bool) (l : LevelId) (d : Word) : (s.deliver told l d).sc = s.sc := rfl
@[simp] theorem deliver_pending (s : State) (told : Bool) (l : LevelId) (d : Word) : (s.deliver told l d).pending = s.pending := rfl
@[simp] theorem deliver_au_interval (s : State) (told : Bool) (l : LevelId) (d : Word) : (s.deliver told l d).au.interval = s.au.interval := rfl
@[simp] theorem deliver_cb_resetWaiting (s : State) (told : Bool) (l : LevelId) (d : Word) : (s.deliver told l d).cb.resetWaiting = s.cb.resetWaiting := rfl
@[simp] theorem deliver_tp_link (s : State) (told : Bool) (l : LevelId) (d : Word) : (s.deliver told l d).tp.link = s.tp.link := rfl
@[simp] theorem deliver_tp_qualifying (s : State) (told : Bool) (l : LevelId) (d : Word) : (s.deliver told l d).tp.qualifying = s.tp.qualifying := rfl
@[simp] theorem deliver_tp_loss (s : State) (told : Bool) (l : LevelId) (d : Word) : (s.deliver told l d).tp.loss = s.tp.loss := rfl
@[simp] theorem deliver_tp_rx (s : State) (told : Bool) (l : LevelId) (d : Word) : (s.deliver told l d).tp.rx = s.tp.rx := rfl
@[simp] theorem deliver_tp_held (s : State) (told : Bool) (l : LevelId) (d : Word) : (s.deliver told l d).tp.held = s.tp.held := rfl
@[simp] theorem deliver_tp_wire (s : State) (told : Bool) (l : LevelId) (d : Word) : (s.deliver told l d).tp.wire = s.tp.wire := rfl
@[simp] theorem deliver_seg (s : State) (told : Bool) (l : LevelId) (d : Word) (g' : SegId) : (s.deliver told l d).seg g' = s.seg g' := rfl
@[simp] theorem deliver_entry (s : State) (told : Bool) (l : LevelId) (d : Word) (t' : Tag) : (s.deliver told l d).entry t' = s.entry t' := rfl

@[simp] theorem resend_pins (s : State) (l : LevelId) (v : Service) : (s.resend l v).pins = s.pins := rfl
@[simp] theorem resend_wb (s : State) (l : LevelId) (v : Service) : (s.resend l v).wb = s.wb := rfl
@[simp] theorem resend_tt (s : State) (l : LevelId) (v : Service) : (s.resend l v).tt = s.tt := rfl
@[simp] theorem resend_sc (s : State) (l : LevelId) (v : Service) : (s.resend l v).sc = s.sc := rfl
@[simp] theorem resend_pending (s : State) (l : LevelId) (v : Service) : (s.resend l v).pending = s.pending := rfl
@[simp] theorem resend_au_nextSequence (s : State) (l : LevelId) (v : Service) : (s.resend l v).au.nextSequence = s.au.nextSequence := rfl
@[simp] theorem resend_au_interval (s : State) (l : LevelId) (v : Service) : (s.resend l v).au.interval = s.au.interval := rfl
@[simp] theorem resend_cb_resetWaiting (s : State) (l : LevelId) (v : Service) : (s.resend l v).cb.resetWaiting = s.cb.resetWaiting := rfl
@[simp] theorem resend_tp_link (s : State) (l : LevelId) (v : Service) : (s.resend l v).tp.link = s.tp.link := rfl
@[simp] theorem resend_tp_qualifying (s : State) (l : LevelId) (v : Service) : (s.resend l v).tp.qualifying = s.tp.qualifying := rfl
@[simp] theorem resend_tp_loss (s : State) (l : LevelId) (v : Service) : (s.resend l v).tp.loss = s.tp.loss := rfl
@[simp] theorem resend_tp_rx (s : State) (l : LevelId) (v : Service) : (s.resend l v).tp.rx = s.tp.rx := rfl
@[simp] theorem resend_tp_held (s : State) (l : LevelId) (v : Service) : (s.resend l v).tp.held = s.tp.held := rfl
@[simp] theorem resend_tp_wire (s : State) (l : LevelId) (v : Service) : (s.resend l v).tp.wire = s.tp.wire := rfl
@[simp] theorem resend_seg (s : State) (l : LevelId) (v : Service) (g' : SegId) : (s.resend l v).seg g' = s.seg g' := rfl
@[simp] theorem resend_entry (s : State) (l : LevelId) (v : Service) (t' : Tag) : (s.resend l v).entry t' = s.entry t' := rfl

@[simp] theorem dropReports_pins (s : State) (g : SegId) : (s.dropReports g).pins = s.pins := rfl
@[simp] theorem dropReports_tp (s : State) (g : SegId) : (s.dropReports g).tp = s.tp := rfl
@[simp] theorem dropReports_wb (s : State) (g : SegId) : (s.dropReports g).wb = s.wb := rfl
@[simp] theorem dropReports_tt (s : State) (g : SegId) : (s.dropReports g).tt = s.tt := rfl
@[simp] theorem dropReports_cb (s : State) (g : SegId) : (s.dropReports g).cb = s.cb := rfl
@[simp] theorem dropReports_pending (s : State) (g : SegId) : (s.dropReports g).pending = s.pending := rfl
@[simp] theorem dropReports_au_nextSequence (s : State) (g : SegId) : (s.dropReports g).au.nextSequence = s.au.nextSequence := rfl
@[simp] theorem dropReports_au_interval (s : State) (g : SegId) : (s.dropReports g).au.interval = s.au.interval := rfl
@[simp] theorem dropReports_entry (s : State) (g : SegId) (t' : Tag) : (s.dropReports g).entry t' = s.entry t' := rfl
@[simp] theorem dropReports_counter (s : State) (g : SegId) (j : Fin 49) : (s.dropReports g).counter j = s.counter j := rfl

@[simp] theorem sendProbe_pins (s : State) (g : SegId) (y : Bool) : (s.sendProbe g y).pins = s.pins := rfl
@[simp] theorem sendProbe_tp (s : State) (g : SegId) (y : Bool) : (s.sendProbe g y).tp = s.tp := rfl
@[simp] theorem sendProbe_wb (s : State) (g : SegId) (y : Bool) : (s.sendProbe g y).wb = s.wb := rfl
@[simp] theorem sendProbe_tt (s : State) (g : SegId) (y : Bool) : (s.sendProbe g y).tt = s.tt := rfl
@[simp] theorem sendProbe_au (s : State) (g : SegId) (y : Bool) : (s.sendProbe g y).au = s.au := rfl
@[simp] theorem sendProbe_cb (s : State) (g : SegId) (y : Bool) : (s.sendProbe g y).cb = s.cb := rfl
@[simp] theorem sendProbe_pending (s : State) (g : SegId) (y : Bool) : (s.sendProbe g y).pending = s.pending := rfl
@[simp] theorem sendProbe_entry (s : State) (g : SegId) (y : Bool) (t' : Tag) : (s.sendProbe g y).entry t' = s.entry t' := rfl
@[simp] theorem sendProbe_level (s : State) (g : SegId) (y : Bool) (l' : LevelId) : (s.sendProbe g y).level l' = s.level l' := rfl
@[simp] theorem sendProbe_counter (s : State) (g : SegId) (y : Bool) (j : Fin 49) : (s.sendProbe g y).counter j = s.counter j := rfl

@[simp] theorem sendFrame_pins (s : State) (f : TxFrame) (rest : List TxFrame) : (s.sendFrame f rest).pins = s.pins := rfl
@[simp] theorem sendFrame_wb (s : State) (f : TxFrame) (rest : List TxFrame) : (s.sendFrame f rest).wb = s.wb := rfl
@[simp] theorem sendFrame_tt (s : State) (f : TxFrame) (rest : List TxFrame) : (s.sendFrame f rest).tt = s.tt := rfl
@[simp] theorem sendFrame_sc (s : State) (f : TxFrame) (rest : List TxFrame) : (s.sendFrame f rest).sc = s.sc := rfl
@[simp] theorem sendFrame_au (s : State) (f : TxFrame) (rest : List TxFrame) : (s.sendFrame f rest).au = s.au := rfl
@[simp] theorem sendFrame_cb (s : State) (f : TxFrame) (rest : List TxFrame) : (s.sendFrame f rest).cb = s.cb := rfl
@[simp] theorem sendFrame_pending (s : State) (f : TxFrame) (rest : List TxFrame) : (s.sendFrame f rest).pending = s.pending := rfl
@[simp] theorem sendFrame_tp_link (s : State) (f : TxFrame) (rest : List TxFrame) : (s.sendFrame f rest).tp.link = s.tp.link := rfl
@[simp] theorem sendFrame_tp_qualifying (s : State) (f : TxFrame) (rest : List TxFrame) : (s.sendFrame f rest).tp.qualifying = s.tp.qualifying := rfl
@[simp] theorem sendFrame_tp_loss (s : State) (f : TxFrame) (rest : List TxFrame) : (s.sendFrame f rest).tp.loss = s.tp.loss := rfl
@[simp] theorem sendFrame_tp_rx (s : State) (f : TxFrame) (rest : List TxFrame) : (s.sendFrame f rest).tp.rx = s.tp.rx := rfl
@[simp] theorem sendFrame_tp_held (s : State) (f : TxFrame) (rest : List TxFrame) : (s.sendFrame f rest).tp.held = s.tp.held := rfl
@[simp] theorem sendFrame_seg (s : State) (f : TxFrame) (rest : List TxFrame) (g' : SegId) : (s.sendFrame f rest).seg g' = s.seg g' := rfl
@[simp] theorem sendFrame_entry (s : State) (f : TxFrame) (rest : List TxFrame) (t' : Tag) : (s.sendFrame f rest).entry t' = s.entry t' := rfl
@[simp] theorem sendFrame_level (s : State) (f : TxFrame) (rest : List TxFrame) (l' : LevelId) : (s.sendFrame f rest).level l' = s.level l' := rfl
@[simp] theorem sendFrame_counter (s : State) (f : TxFrame) (rest : List TxFrame) (j : Fin 49) : (s.sendFrame f rest).counter j = s.counter j := rfl

@[simp] theorem applyManagementReset_pins (s : State) : (s.applyManagementReset).pins = s.pins := rfl
@[simp] theorem applyManagementReset_pending (s : State) : (s.applyManagementReset).pending = s.pending := rfl
@[simp] theorem applyManagementReset_tp_link (s : State) : (s.applyManagementReset).tp.link = s.tp.link := rfl
@[simp] theorem applyManagementReset_tp_qualifying (s : State) : (s.applyManagementReset).tp.qualifying = s.tp.qualifying := rfl
@[simp] theorem applyManagementReset_tp_loss (s : State) : (s.applyManagementReset).tp.loss = s.tp.loss := rfl
@[simp] theorem applyManagementReset_tp_wire (s : State) : (s.applyManagementReset).tp.wire = s.tp.wire := rfl
@[simp] theorem applyManagementReset_wb_bankA (s : State) : (s.applyManagementReset).wb.bankA = s.wb.bankA := rfl
@[simp] theorem applyManagementReset_wb_bankB (s : State) : (s.applyManagementReset).wb.bankB = s.wb.bankB := rfl
@[simp] theorem applyManagementReset_wb_active (s : State) : (s.applyManagementReset).wb.active = s.wb.active := rfl
@[simp] theorem applyManagementReset_wb_generation (s : State) : (s.applyManagementReset).wb.generation = s.wb.generation := rfl
@[simp] theorem applyManagementReset_au_interval (s : State) : (s.applyManagementReset).au.interval = s.au.interval := rfl
@[simp] theorem applyManagementReset_cb_counters (s : State) : (s.applyManagementReset).cb.counters = s.cb.counters := rfl
@[simp] theorem applyManagementReset_cb_saturated (s : State) : (s.applyManagementReset).cb.saturated = s.cb.saturated := rfl

@[simp] theorem elapse_pins (s : State) (n : Nat) : (s.elapse n).pins = s.pins := rfl
@[simp] theorem elapse_wb (s : State) (n : Nat) : (s.elapse n).wb = s.wb := rfl
@[simp] theorem elapse_tt (s : State) (n : Nat) : (s.elapse n).tt = s.tt := rfl
@[simp] theorem elapse_cb (s : State) (n : Nat) : (s.elapse n).cb = s.cb := rfl
@[simp] theorem elapse_pending (s : State) (n : Nat) : (s.elapse n).pending = s.pending := rfl
@[simp] theorem elapse_tp_link (s : State) (n : Nat) : (s.elapse n).tp.link = s.tp.link := rfl
@[simp] theorem elapse_tp_rx (s : State) (n : Nat) : (s.elapse n).tp.rx = s.tp.rx := rfl
@[simp] theorem elapse_tp_tx (s : State) (n : Nat) : (s.elapse n).tp.tx = s.tp.tx := rfl
@[simp] theorem elapse_tp_held (s : State) (n : Nat) : (s.elapse n).tp.held = s.tp.held := rfl
@[simp] theorem elapse_tp_wire (s : State) (n : Nat) : (s.elapse n).tp.wire = s.tp.wire := rfl
@[simp] theorem elapse_au_nextSequence (s : State) (n : Nat) : (s.elapse n).au.nextSequence = s.au.nextSequence := rfl
@[simp] theorem elapse_au_interval (s : State) (n : Nat) : (s.elapse n).au.interval = s.au.interval := rfl
@[simp] theorem elapse_entry (s : State) (n : Nat) (t' : Tag) : (s.elapse n).entry t' = s.entry t' := rfl
@[simp] theorem elapse_counter (s : State) (n : Nat) (j : Fin 49) : (s.elapse n).counter j = s.counter j := rfl

@[simp] theorem countOut_pins (s : State) (which : Bank) : (s.countOut which).pins = s.pins := by
  simp only [countOut]; split <;> rfl
@[simp] theorem countOut_tp (s : State) (which : Bank) : (s.countOut which).tp = s.tp := by
  simp only [countOut]; split <;> rfl
@[simp] theorem countOut_tt (s : State) (which : Bank) : (s.countOut which).tt = s.tt := by
  simp only [countOut]; split <;> rfl
@[simp] theorem countOut_sc (s : State) (which : Bank) : (s.countOut which).sc = s.sc := by
  simp only [countOut]; split <;> rfl
@[simp] theorem countOut_cb (s : State) (which : Bank) : (s.countOut which).cb = s.cb := by
  simp only [countOut]; split <;> rfl
@[simp] theorem countOut_pending (s : State) (which : Bank) : (s.countOut which).pending = s.pending := by
  simp only [countOut]; split <;> rfl
@[simp] theorem countOut_au_nextSequence (s : State) (which : Bank) : (s.countOut which).au.nextSequence = s.au.nextSequence := by
  simp only [countOut]; split <;> rfl
@[simp] theorem countOut_au_interval (s : State) (which : Bank) : (s.countOut which).au.interval = s.au.interval := by
  simp only [countOut]; split <;> rfl
@[simp] theorem countOut_seg (s : State) (which : Bank) (g' : SegId) : (s.countOut which).seg g' = s.seg g' := by
  simp only [countOut]; split <;> rfl
@[simp] theorem countOut_entry (s : State) (which : Bank) (t' : Tag) : (s.countOut which).entry t' = s.entry t' := by
  simp only [countOut]; split <;> rfl
@[simp] theorem countOut_counter (s : State) (which : Bank) (j : Fin 49) : (s.countOut which).counter j = s.counter j := by
  simp only [countOut]; split <;> rfl

@[simp] theorem uncountEntry_pins (s : State) (t : Tag) : (s.uncountEntry t).pins = s.pins := by
  simp only [uncountEntry]; split <;> simp
@[simp] theorem uncountEntry_tp (s : State) (t : Tag) : (s.uncountEntry t).tp = s.tp := by
  simp only [uncountEntry]; split <;> simp
@[simp] theorem uncountEntry_tt (s : State) (t : Tag) : (s.uncountEntry t).tt = s.tt := by
  simp only [uncountEntry]; split <;> simp
@[simp] theorem uncountEntry_sc (s : State) (t : Tag) : (s.uncountEntry t).sc = s.sc := by
  simp only [uncountEntry]; split <;> simp
@[simp] theorem uncountEntry_cb (s : State) (t : Tag) : (s.uncountEntry t).cb = s.cb := by
  simp only [uncountEntry]; split <;> simp
@[simp] theorem uncountEntry_pending (s : State) (t : Tag) : (s.uncountEntry t).pending = s.pending := by
  simp only [uncountEntry]; split <;> simp
@[simp] theorem uncountEntry_au_nextSequence (s : State) (t : Tag) : (s.uncountEntry t).au.nextSequence = s.au.nextSequence := by
  simp only [uncountEntry]; split <;> simp
@[simp] theorem uncountEntry_au_interval (s : State) (t : Tag) : (s.uncountEntry t).au.interval = s.au.interval := by
  simp only [uncountEntry]; split <;> simp
@[simp] theorem uncountEntry_seg (s : State) (t : Tag) (g' : SegId) : (s.uncountEntry t).seg g' = s.seg g' := by
  simp only [uncountEntry]; split <;> simp
@[simp] theorem uncountEntry_entry (s : State) (t : Tag) (t' : Tag) : (s.uncountEntry t).entry t' = s.entry t' := by
  simp only [uncountEntry]; split <;> simp
@[simp] theorem uncountEntry_counter (s : State) (t : Tag) (j : Fin 49) : (s.uncountEntry t).counter j = s.counter j := by
  simp only [uncountEntry]; split <;> simp

@[simp] theorem swapBanks_pins (s : State) : (s.swapBanks).pins = s.pins := by
  simp only [swapBanks]; split <;> rfl
@[simp] theorem swapBanks_tp (s : State) : (s.swapBanks).tp = s.tp := by
  simp only [swapBanks]; split <;> rfl
@[simp] theorem swapBanks_tt (s : State) : (s.swapBanks).tt = s.tt := by
  simp only [swapBanks]; split <;> rfl
@[simp] theorem swapBanks_sc (s : State) : (s.swapBanks).sc = s.sc := by
  simp only [swapBanks]; split <;> rfl
@[simp] theorem swapBanks_cb (s : State) : (s.swapBanks).cb = s.cb := by
  simp only [swapBanks]; split <;> rfl
@[simp] theorem swapBanks_pending (s : State) : (s.swapBanks).pending = s.pending := by
  simp only [swapBanks]; split <;> rfl
@[simp] theorem swapBanks_au_nextSequence (s : State) : (s.swapBanks).au.nextSequence = s.au.nextSequence := by
  simp only [swapBanks]; split <;> rfl
@[simp] theorem swapBanks_au_interval (s : State) : (s.swapBanks).au.interval = s.au.interval := by
  simp only [swapBanks]; split <;> rfl
@[simp] theorem swapBanks_seg (s : State) (g' : SegId) : (s.swapBanks).seg g' = s.seg g' := by
  simp only [swapBanks]; split <;> rfl
@[simp] theorem swapBanks_entry (s : State) (t' : Tag) : (s.swapBanks).entry t' = s.entry t' := by
  simp only [swapBanks]; split <;> rfl
@[simp] theorem swapBanks_counter (s : State) (j : Fin 49) : (s.swapBanks).counter j = s.counter j := by
  simp only [swapBanks]; split <;> rfl

end Sys2Proof.Machine.State
end

