-- ==== Sys2Proof/Laws/Keeps.lean ====
section
/-! SUPPORT. Said once: which small changes the shared operations are made of. A property of states that each
small change keeps is kept by every shared operation (`Keeps`), and invariants follow from it. -/

namespace Sys2Proof.Machine

/-- The changes a step makes to one Segment Controller outside its attention queue. -/
inductive SegMove : SegCtl → SegCtl → Prop where
  | line (c : SegCtl) (fs : List DownFrame) : SegMove c { c with line := fs }
  | enqueue (c : SegCtl) (refs : List LegRef) (carries : c.state.carries = true)
      (room : c.queue.length + c.sent.length + refs.length ≤ Config.slots) :
      SegMove c { c with queue := c.queue ++ refs }
  | withdraw (c : SegCtl) (p : LegRef → Bool) : SegMove c { c with queue := c.queue.filter p }
  | send (c : SegCtl) (r : LegRef) (rest : List LegRef) (fs : List DownFrame)
      (head : c.queue = r :: rest) (may : c.maySend = true) :
      SegMove c { c with
        queue := rest
        sent := c.sent ++ [{ ref := r, tag := c.legTag, timer := c.legTimeout }]
        legTag := c.legTag + 1
        line := fs }
  | probe (c : SegCtl) (synced : Bool) (fs : List DownFrame) (idle : c.state.carries = false) :
      SegMove c { c with
        state := .probing c.legTag c.legTimeout synced
        legTag := c.legTag + 1
        line := fs }
  | leave (c : SegCtl) (target : SegState) (lf : LastFailure) (idle : target.carries = false)
      (silent : c.attention = []) :
      SegMove c { c with state := target, sent := [], queue := [], lastFailure := lf }
  | between (c : SegCtl) (target : SegState) (was : c.state.carries = false) (idle : target.carries = false) :
      SegMove c { c with state := target }
  | failures (c : SegCtl) (n : Nat) : SegMove c { c with failures := n }
  | resolve (c : SegCtl) (tag : LegTag) (n : Nat) (lf : LastFailure) :
      SegMove c { c.unsent tag with failures := n, lastFailure := lf }
  | rewind (c : SegCtl) (front run : List SentLeg) (again : List LegRef) (split : c.sent = front ++ run)
      (fewer : again.length ≤ run.length) :
      SegMove c { c with sent := front, queue := again ++ c.queue }
  | answered (c : SegCtl) (tag : LegTag) (n : Nat) (synced : Bool) (was : c.state = .probing tag n synced) :
      SegMove c { c with state := if synced then .active else .rejoining, failures := 0 }
  | risen (c : SegCtl) (b : Bool) : SegMove c { c with risen := b }
  | synced (c : SegCtl) (was : c.state = .rejoining) : SegMove c { c with state := .active }

/-- An open READ or WRITE entry changes: its bank, window and parts stay (R34). -/
structure EntryMove (d d' : DataEntry) : Prop where
  bank : d'.bank = d.bank
  window : d'.window = d.window
  parts : d'.parts = d.parts

/-- A property of states that every small change keeps. -/
structure Keeps (P : State → Prop) : Prop where
  seg : ∀ {s} (g : SegId) (c : SegCtl), SegMove (s.seg g) c → P s → P (s.setSeg g c)
  entry : ∀ {s} (t : Tag) (d d' : DataEntry), s.entry t = .data d → EntryMove d d' → P s →
    P (s.setEntry t (.data d'))
  count : ∀ {s} (i : Fin 49) (told : Bool), P s → P (s.count i told)
  raise : ∀ {s} (l : LevelId) (x : Word), P s → P (s.raise l x)
  /-- An open entry answers and is freed. -/
  answer : ∀ {s} (t : Tag) (r : Response), s.tagInUse t = true → P s →
    P (((s.placeResponse r).uncountEntry t).clearEntry t)
  /-- An open entry is freed without a response. -/
  drop : ∀ {s} (t : Tag), s.tagInUse t = true → P s → P ((s.releaseHold.uncountEntry t).clearEntry t)
  dropReports : ∀ {s} (g : SegId), P s → P (s.dropReports g)
  deliver : ∀ {s} (told : Bool) (l : LevelId) (x : Word), (s.level l).latch = some x → s.deliverable l = true →
    0 < s.freePlaces → P s → P (s.deliver told l x)
  resend : ∀ {s} (l : LevelId) (v : Service), (s.level l).service = some v → 0 < s.freePlaces → P s →
    P (s.resend l v)
  deadline : ∀ {s} (l : LevelId) (v : Service) (e : Deadline), (s.level l).service = some v → P s →
    P (s.setLevel l { s.level l with service := some { v with deadline := e } })

namespace Keeps

variable {P : State → Prop} {s : State}

/-! ## The end of a step -/

theorem offerDelivery (k : Keeps P) (told : Bool) (h : P s) : P (s.offerDelivery told) := by
  unfold State.offerDelivery
  split
  · rename_i l choice
    split
    · split
      · exact k.deliver told l _ ‹_› (List.find?_some choice) ‹_› h
      · exact h
    · exact h
  · exact h

theorem offerResend (k : Keeps P) (l : LevelId) (h : P s) : P (s.offerResend l) := by
  unfold State.offerResend
  split
  · split
    · rename_i v hv hc
      simp only [Bool.and_eq_true, decide_eq_true_eq] at hc
      exact k.resend l v hv hc.2 h
    · exact h
  · exact h

theorem foldl {α : Type} (f : State → α → State) (hf : ∀ s a, P s → P (f s a)) (as : List α) (h : P s) :
    P (as.foldl f s) := by
  induction as generalizing s with
  | nil => exact h
  | cons a as ih => exact ih (hf s a h)

theorem offerResends (k : Keeps P) (h : P s) : P s.offerResends :=
  foldl _ (fun _ l hs => k.offerResend l hs) _ h

theorem finish (k : Keeps P) (before : State) (h : P s) : P (s.finish before) := by
  unfold State.finish
  exact k.offerDelivery _ (k.offerResends h)

theorem resendExpired (k : Keeps P) (l : LevelId) (v : Service) (hv : (s.level l).service = some v)
    (h : P s) : P (s.resendExpired l v) := by
  unfold State.resendExpired
  split
  · exact k.deadline l v _ hv h
  · split
    · rename_i hc
      simp only [Bool.and_eq_true, decide_eq_true_eq] at hc
      exact k.resend l v hv hc.2 h
    · exact k.deadline l v _ hv h

/-! ## Freeing and settling -/

theorem releaseFlushes (k : Keeps P) (n : Nat) (h : P s) : P (State.releaseFlushes n s) := by
  induction n generalizing s with
  | zero => exact h
  | succ n ih =>
    unfold State.releaseFlushes
    split
    · rename_i t size found
      obtain ⟨u, -, hu⟩ := List.exists_of_findSome?_eq_some found
      have hflush : ∃ z, s.entry t = .flushing [] z := by
        split at hu
        · cases hu; exact ⟨_, ‹_›⟩
        · cases hu
      obtain ⟨z, hz⟩ := hflush
      have := k.answer t (flushResponse t .ok size) (by simp [State.tagInUse, hz, Entry.isOpen]) h
      rw [State.uncountEntry, State.entry_eq_of_tt (State.placeResponse_tt ..), hz] at this
      exact ih this
    · exact h

theorem releaseChain (k : Keeps P) (h : P s) : P s.releaseChain := by
  unfold State.releaseChain
  split
  · exact h
  · exact k.releaseFlushes _ h

theorem answerEntry (k : Keeps P) (t : Tag) (r : Response) (o : s.tagInUse t = true) (h : P s) :
    P (s.answerEntry t r) :=
  k.releaseChain (k.answer t r o h)

theorem dropEntry (k : Keeps P) (t : Tag) (o : s.tagInUse t = true) (h : P s) : P (s.dropEntry t) :=
  k.releaseChain (k.drop t o h)

theorem inUse_of_data {t : Tag} {d : DataEntry} (e : s.entry t = .data d) : s.tagInUse t = true := by
  simp [State.tagInUse, e, Entry.isOpen]

theorem settle (k : Keeps P) (t : Tag) (d : DataEntry) (e : s.entry t = .data d) (h : P s) :
    P (s.settle t d) := by
  unfold State.settle
  split
  · exact k.answerEntry t _ (inUse_of_data e) h
  · exact k.answerEntry t _ (inUse_of_data e) h
  · have h1 : P (if d.hasDissent then s.raise 1 (toWord t.val) else s) := by
      split
      · exact k.raise _ _ h
      · exact h
    have e1 : (if d.hasDissent then s.raise 1 (toWord t.val) else s).entry t = .data d := by
      split <;> exact e
    exact k.answerEntry t _ (inUse_of_data (State.entry_setEntry_self ..))
      (k.entry t d _ e1 ⟨rfl, rfl, rfl⟩ h1)

theorem examine (k : Keeps P) (t : Tag) (h : P s) : P (s.examine t) := by
  unfold State.examine
  split
  · split
    · exact k.settle t _ ‹_› h
    · exact h
  · exact h

/-! ## Waits, withdrawal, failover, outcomes -/

theorem createLegs (k : Keeps P) (t : Tag) (g : SegId) (carries : (s.seg g).state.carries = true)
    (room : ∀ d, s.entry t = .data d → d.parts.count ≤ s.freeSlots g) (h : P s) :
    P (s.createLegs t g) := by
  unfold State.createLegs
  split
  · rename_i d e
    have r := room d e
    have one : 1 ≤ d.parts.count := by unfold Parts.count; split <;> omega
    refine k.seg g _ (.enqueue _ _ carries ?_) (k.entry t d _ e ⟨rfl, rfl, rfl⟩ h)
    simp only [State.freeSlots] at r
    simp only [State.seg, State.setEntry_sc, List.length_map, List.length_range] at *
    omega
  · exact h

theorem isActive_carries {c : SegCtl} (h : c.state = .active) : c.state.carries = true := by
  simp [h, SegState.carries]

theorem nextMember_ok {ms : List SegId} {from? : Option Nat} {ok : SegId → Bool} {i : Fin 4} {g : SegId}
    (h : nextMember ms from? ok = some (i, g)) : ok g = true := by
  obtain ⟨j, -, hj⟩ := List.exists_of_findSome?_eq_some h
  cases hm : ms[j.val]? with
  | none => simp [hm] at hj
  | some x =>
    simp only [hm, Option.ite_none_right_eq_some, Option.some.injEq, Prod.mk.injEq, Bool.and_eq_true] at hj
    exact hj.2.2 ▸ hj.1.2

theorem moveOn (k : Keeps P) (t : Tag) (h : P s) : P (s.moveOn t) := by
  unfold State.moveOn
  split
  · rename_i d e
    split
    · split
      · rename_i pos g found
        have act : (s.seg g).state = .active := by simpa using nextMember_ok found
        split
        · rename_i hc
          simp only [Bool.and_eq_true, decide_eq_true_eq] at hc
          refine k.createLegs t g (isActive_carries act) ?_ (k.entry t d _ e ⟨rfl, rfl, rfl⟩ h)
          intro d' e'
          rw [State.entry_setEntry_self] at e'
          cases e'
          exact hc.1
        · exact k.entry t d _ e ⟨rfl, rfl, rfl⟩ h
      · exact k.entry t d _ e ⟨rfl, rfl, rfl⟩ h
    · exact h
  · exact h

theorem dropWait_move (d : DataEntry) : EntryMove d d.dropWait := by
  unfold DataEntry.dropWait
  split <;> exact ⟨rfl, rfl, rfl⟩

theorem serveFrom (k : Keeps P) (g : SegId) (ts : List Tag) (act : (s.seg g).state = .active) (h : P s) :
    P (s.serveFrom g ts) := by
  induction ts generalizing s with
  | nil => exact h
  | cons t ts ih =>
    unfold State.serveFrom
    split
    · split
      · rename_i d e
        split
        · have room : ∀ d', (s.setEntry t (.data d.dropWait)).entry t = .data d' →
              d'.parts.count ≤ (s.setEntry t (.data d.dropWait)).freeSlots g := by
            intro d' e'
            rw [State.entry_setEntry_self] at e'
            cases e'
            rw [(dropWait_move d).parts]
            assumption
          refine ih ?_ (k.createLegs t g (isActive_carries act) room
            (k.entry t d _ e (dropWait_move d) h))
          rw [State.createLegs, State.entry_setEntry_self]
          dsimp only
          rw [State.seg_setSeg_self]
          exact act
        · exact h
      · exact h
    · exact ih act h

theorem serveWaiters (k : Keeps P) (g : SegId) (h : P s) : P (s.serveWaiters g) := by
  unfold State.serveWaiters
  split
  · exact k.serveFrom g _ ‹_› h
  · exact h

theorem rise (k : Keeps P) (g : SegId) (h : P s) : P (s.rise g) := k.seg g _ (.risen _ true) h

theorem offerRise (k : Keeps P) (g : SegId) (h : P s) : P (s.offerRise g) := by
  unfold State.offerRise
  split
  · exact k.serveWaiters g (k.seg g _ (.risen _ false) h)
  · exact h

theorem moveWaits (k : Keeps P) (g : SegId) (h : P s) : P (s.moveWaits g) := by
  refine foldl _ (fun s t hs => ?_) _ h
  split
  · exact k.examine t (k.moveOn t hs)
  · exact hs

theorem withdrawFrom (k : Keeps P) (t : Tag) (g : SegId) (h : P s) : P (s.withdrawFrom t g) := by
  unfold State.withdrawFrom
  split
  · rename_i d e
    exact k.seg g _ (.withdraw _ _) (k.entry t d _ e ⟨rfl, rfl, rfl⟩ h)
  · exact h

theorem withdrawQueued (k : Keeps P) (t : Tag) (h : P s) : P (s.withdrawQueued t) :=
  foldl _ (fun _ g hs => k.withdrawFrom t g hs) _ h

theorem dropWait (k : Keeps P) (t : Tag) (h : P s) : P (s.dropWait t) := by
  unfold State.dropWait
  split
  · exact k.entry t _ _ ‹_› (dropWait_move _) h
  · exact h

theorem failover (k : Keeps P) (t : Tag) (h : P s) : P (s.failover t) := by
  unfold State.failover
  split
  · rename_i d e
    split
    · exact k.moveOn t (k.withdrawFrom t _ (k.entry t d _ e ⟨rfl, rfl, rfl⟩ h))
    · exact h
  · exact h

theorem afterOutcome (k : Keeps P) (t : Tag) (b : Bool) (h : P s) : P (s.afterOutcome t b) := by
  unfold State.afterOutcome
  split
  · rename_i d e
    split
    · refine k.examine t ?_
      split
      · exact k.failover t h
      · exact h
    · split
      · exact h
      · exact k.answerEntry t _ (inUse_of_data e) h
    · split
      · exact h
      · exact k.dropEntry t (inUse_of_data e) h
  · exact h

theorem legOutcome (k : Keeps P) (r : LegRef) (x : LegState) (h : P s) : P (s.legOutcome r x) := by
  unfold State.legOutcome
  split
  · rename_i d e
    split
    · exact k.afterOutcome _ _ (k.entry _ d _ e ⟨rfl, rfl, rfl⟩ h)
    · exact h
  · exact h

theorem updateLeg (k : Keeps P) (r : LegRef) (f : Leg → Leg) (h : P s) : P (s.updateLeg r f) := by
  unfold State.updateLeg
  split
  · rename_i d e
    exact k.entry _ d _ e ⟨rfl, rfl, rfl⟩ h
  · exact h

theorem abandon (k : Keeps P) (t : Tag) (h : P s) : P (s.abandon t) := by
  unfold State.abandon
  split
  · split
    · exact h
    · have h1 := k.dropWait t (k.withdrawQueued t h)
      dsimp only
      split
      · rename_i d e
        split
        · exact k.entry _ d _ e ⟨rfl, rfl, rfl⟩ h1
        · exact k.dropEntry t (inUse_of_data ‹_›) h1
      · exact h1
  · exact h

theorem transitLoss (k : Keeps P) (h : P s) : P s.transitLoss := by
  unfold State.transitLoss
  refine foldl _ (fun _ t hs => k.abandon t hs) _ (foldl _ (fun s t hs => ?_) _ h)
  unfold State.dropFlush
  split
  · rename_i e
    have := k.drop t (by simp [State.tagInUse, e, Entry.isOpen]) hs
    rwa [State.uncountEntry, State.entry_eq_of_tt (State.releaseHold_tt ..), e] at this
  · exact hs

/-! ## Segment Controllers -/

theorem sendHead (k : Keeps P) (g : SegId) (r : LegRef) (rest : List LegRef)
    (head : (s.seg g).queue = r :: rest) (may : (s.seg g).maySend = true) (h : P s) :
    P (s.sendHead g r rest) :=
  k.count _ _ (k.updateLeg _ _ (k.seg g _ (.send _ r rest _ head may) h))

theorem sendProbe (k : Keeps P) (g : SegId) (y : Bool) (idle : (s.seg g).state.carries = false) (h : P s) :
    P (s.sendProbe g y) :=
  k.seg g _ (.probe _ y _ idle) h

theorem failLegs (k : Keeps P) (reason : FailureReason) (refs : List LegRef) (h : P s) :
    P (s.failLegs reason refs) :=
  foldl _ (fun _ r hs => k.legOutcome r _ hs) _ h

theorem dropReports_attention (s : State) (g : SegId) : ((s.dropReports g).seg g).attention = [] := by
  simp [State.dropReports]

theorem outOfService (k : Keeps P) (g : SegId) (target : SegState) (reason : FailureReason)
    (idle : target.carries = false) (h : P s) : P (s.outOfService g target reason) :=
  k.moveWaits g (k.failLegs reason _ (k.seg g _ (.leave _ target _ idle (dropReports_attention ..))
    (k.dropReports g h)))

theorem leaveFor (k : Keeps P) (g : SegId) (target : SegState) (reason : FailureReason)
    (idle : target.carries = false) (h : P s) : P (s.leaveFor g target reason) := by
  unfold State.leaveFor
  split
  · exact k.outOfService g target reason idle h
  · exact k.seg g _ (.between _ target (by simp_all) idle) h

theorem fault (k : Keeps P) (g : SegId) (h : P s) : P (s.fault g) :=
  k.count _ _ (k.raise _ _ (k.leaveFor g .faulted _ rfl h))

theorem takeLegDone (k : Keeps P) (g : SegId) (tag : LegTag) (data : List Word) (h : P s) :
    P (s.takeLegDone g tag data) := by
  unfold State.takeLegDone
  split
  · split
    · split
      · exact k.offerRise g (k.legOutcome _ _ (k.count _ _ (k.seg g _ (.resolve _ tag 0 _) h)))
      · exact k.count _ _ h
    · exact k.count _ _ h
  · exact k.count _ _ h

theorem takeLegRefused (k : Keeps P) (g : SegId) (tag : LegTag) (code : Byte) (h : P s) :
    P (s.takeLegRefused g tag code) := by
  unfold State.takeLegRefused
  split
  · split
    · exact k.offerRise g (k.legOutcome _ _ (k.count _ _ (k.seg g _ (.resolve _ tag 0 _) h)))
    · exact k.count _ _ h
  · exact k.count _ _ h

theorem takeProbeReply (k : Keeps P) (g : SegId) (tag : LegTag) (h : P s) : P (s.takeProbeReply g tag) := by
  unfold State.takeProbeReply
  split
  · split
    · exact k.seg g _ (.answered _ _ _ _ ‹_›) h
    · exact k.count _ _ h
  · exact k.count _ _ h

theorem rewind (k : Keeps P) (g : SegId) (front run : List SentLeg)
    (split : (s.seg g).sent = front ++ run) (h : P s) : P (s.rewind g front run) := by
  unfold State.rewind
  dsimp only
  have fewer : ((run.map SentLeg.ref).filter s.resendable).length ≤ run.length :=
    Nat.le_trans (List.length_filter_le ..) (Nat.le_of_eq (List.length_map ..))
  have counted := k.count (segCounter g .rewinds) false (foldl _
    (fun _ r hs => k.updateLeg r (fun l => { l with state := .queued }) hs)
    ((run.map SentLeg.ref).filter s.resendable) (k.seg g _ (.rewind _ front run _ split fewer) h))
  refine k.offerRise g (foldl _ (fun _ r hs => k.legOutcome r _ hs) _ ?_)
  split
  · exact counted
  · exact k.rise g counted

theorem failTimeout (k : Keeps P) (g : SegId) (x : SentLeg) (h : P s) : P (s.failTimeout g x) :=
  k.offerRise g (k.legOutcome _ _ (k.seg g _ (.resolve _ x.tag _ _) h))

theorem legExpired (k : Keeps P) (g : SegId) (x : SentLeg) (h : P s) : P (s.legExpired g x) := by
  have h1 := k.count (segCounter g .legTimeouts) false (k.seg g _ (.failures _ ((State.seg (s.updateLeg x.ref
    fun l => { l with timeouts := l.timeouts + 1 }) g).failures + 1)) (k.updateLeg x.ref
    (fun l => { l with timeouts := l.timeouts + 1 }) h))
  unfold State.legExpired
  dsimp only
  split
  · exact k.fault g h1
  · split
    · exact k.rewind g _ _ (List.takeWhile_append_dropWhile ..).symm h1
    · exact k.failTimeout g x h1

theorem probeExpired (k : Keeps P) (g : SegId) (y : Bool) (idle : (s.seg g).state.carries = false)
    (h : P s) : P (s.probeExpired g y) := by
  have h1 := k.seg g _ (.failures _ ((s.seg g).failures + 1)) h
  unfold State.probeExpired
  dsimp only
  split
  · exact k.fault g h1
  · exact k.sendProbe g y (by simpa using idle) h1

theorem startSegment (k : Keeps P) (g : SegId) (y : Bool) (idle : (s.seg g).state.idle = true) (h : P s) :
    P (s.startSegment g y) := by
  refine k.sendProbe g y ?_ (k.seg g _ (.failures _ 0) h)
  simp only [State.seg_setSeg_self]
  cases hst : (s.seg g).state <;> simp_all [SegState.idle, SegState.carries]

end Keeps

end Sys2Proof.Machine
end

