-- ==== Sys2Proof/Laws/Specs.lean ====
section
/-! SUPPORT. One lemma per shared operation of a step: what it does under the conditions the statements name. -/

namespace Sys2Proof.Machine

/-! ## Taken frames -/

theorem Takes.mayTake {s : State} {row : TakenRow} {f : RxFrame} {rest : List RxFrame}
    (h : Takes s row f rest) : s.mayTake = true := by
  simp [State.mayTake, State.live, h.live, h.up, h.room, h.noReset]

/-- A taken frame is dealt with by its owner, then the step ends. -/
theorem Takes.takeFrame {s : State} {row : TakenRow} {f : RxFrame} {rest : List RxFrame}
    (h : Takes s row f rest) (owner : State → RxFrame → State) :
    s.takeFrame row owner = (owner (s.taken rest) f).finish s := by
  simp only [State.takeFrame, h.head, h.mayTake, h.row, beq_self_eq_true, Bool.and_self, if_true]
  rfl

theorem answer_eq_placeResponse (s : State) (f : RxFrame) (status : Status) (detail : Word)
    (data : List Word) : s.answer f status detail data = s.placeResponse (f.reply status detail data) := rfl

theorem withFreeTag_inUse {s : State} {f : RxFrame} (h : s.tagInUse f.tag = true) (go : State → State) :
    s.withFreeTag f go = s.placeResponse (f.reply .tagInUse 0) := by
  simp [State.withFreeTag, h, answer_eq_placeResponse]

theorem withFreeTag_free {s : State} {f : RxFrame} (h : s.tagInUse f.tag = false) (go : State → State) :
    s.withFreeTag f go = go s := by
  simp [State.withFreeTag, h]

theorem tagInUse_false {s : State} {t : Tag} (h : s.entry t = .free) : s.tagInUse t = false := by
  simp [State.tagInUse, h, Entry.isOpen]

/-! ## Time -/

theorem elapse_zero (s : State) : s.elapse 0 = s := by
  have e1 : SegCtl.elapse 0 = id := by
    funext c
    have : c.state.elapse 0 = c.state := by cases c.state <;> rfl
    simp [SegCtl.elapse, this]
  have e2 : Level.elapse 0 = id := by
    funext lv
    have : Service.elapse 0 = id := by
      funext v
      have : v.deadline.elapse 0 = v.deadline := by cases v.deadline <;> rfl
      simp [Service.elapse, this]
    simp [Level.elapse, this]
  simp [State.elapse, e1, e2]

/-- A timer's time can pass when none is left or the clock runs. -/
theorem runOut_eq {s : State} {n : Nat} (h : n = 0 ∨ s.pins.refclk = true) :
    s.runOut? n = some (s.elapse n) := by
  unfold State.runOut?
  by_cases z : n = 0
  · subst z; simp [elapse_zero]
  · simp [z, h.resolve_left z]

/-! ## The end of a step -/

theorem offerResend_quiet {s : State} {l : LevelId}
    (h : ∀ v, (s.level l).service = some v → v.deadline ≠ .waiting) : s.offerResend l = s := by
  unfold State.offerResend
  split
  · rename_i v hv
    simp [h v hv]
  · rfl

theorem offerResends_quiet {s : State} (h : s.Quiet) : s.offerResends = s := by
  have (ls : List LevelId) : ls.foldl State.offerResend s = s := by
    induction ls with
    | nil => rfl
    | cons l ls ih => rw [List.foldl_cons, offerResend_quiet (h.2 l), ih]
  exact this _

/-- With nothing to deliver or to resend, a step ends as it stands. -/
theorem finish_quiet {s : State} (h : s.Quiet) (before : State) : s.finish before = s := by
  unfold State.finish
  rw [offerResends_quiet h]
  simp only [State.offerDelivery, h.1]

/-- A step ends as it stands when the Attention Unit may place nothing or no place is free. -/
theorem finish_idle {s : State} (h : s.attentionMayPlace = false ∨ s.freePlaces = 0) (before : State) :
    s.finish before = s := by
  have hr (l : LevelId) : s.offerResend l = s := by
    unfold State.offerResend
    split
    · rcases h with h | h <;> simp [h]
    · rfl
  have hrs : s.offerResends = s := by
    unfold State.offerResends
    generalize allLevels = ls
    induction ls with
    | nil => rfl
    | cons a as ih => rw [List.foldl_cons, hr, ih]
  unfold State.finish
  rw [hrs]
  unfold State.offerDelivery
  rcases h with h | h
  · have : s.deliveryChoice = none := by
      unfold State.deliveryChoice
      rw [List.find?_eq_none]
      intro l _
      simp [State.deliverable, h]
    simp [this]
  · dsimp only
    cases s.deliveryChoice with
    | none => rfl
    | some l => dsimp only; cases (s.level l).latch <;> simp [h]

theorem finish_waitingReset {s : State} (h : s.cb.resetWaiting = true) (before : State) : s.finish before = s :=
  finish_idle (.inl (by simp [State.attentionMayPlace, h])) before

theorem finish_linkDown {s : State} (h : s.tp.link = .down) (before : State) : s.finish before = s :=
  finish_idle (.inl (by simp [State.attentionMayPlace, h])) before

theorem finish_porn {s : State} (h : s.pins.porn = true) (before : State) : s.finish before = s :=
  finish_idle (.inl (by simp [State.attentionMayPlace, State.live, h])) before

/-! ## Tests of the model as propositions -/

theorem tagInUse_iff (s : State) (t : Tag) : s.tagInUse t = true ↔ s.entry t ≠ .free := by
  unfold State.tagInUse
  cases s.entry t <;> simp [Entry.isOpen]

theorem mem_openTags (s : State) (t : Tag) : t ∈ s.openTags ↔ s.entry t ≠ .free := by
  unfold State.openTags
  rw [List.mem_filter, tagInUse_iff]
  simp [allTags]

theorem carries_iff (st : SegState) : st.carries = true ↔ st = .active ∨ st = .rejoining := by
  cases st <;> simp [SegState.carries]

theorem contentsAgree_iff (isWrite : Bool) (f : RxFrame) :
    contentsAgree isWrite f = true ↔
      1 ≤ f.count ∧ f.count ≤ 16 ∧ (if isWrite = true then f.data.length = f.count else f.data = []) := by
  unfold contentsAgree Config.maxCount
  cases isWrite <;> simp [and_assoc]

theorem segmentHeld_iff (s : State) (g : SegId) :
    s.segmentHeld g = true ↔ ∃ t d, s.entry t = .data d ∧ d.waiting = some g := by
  unfold State.segmentHeld
  rw [List.any_eq_true]
  constructor
  · rintro ⟨t, _, h⟩
    unfold State.waitsOn at h
    split at h
    · exact ⟨t, _, ‹_›, by simpa using h⟩
    · cases h
  · rintro ⟨t, d, h1, h2⟩
    exact ⟨t, by simp [allTags], by simp [State.waitsOn, h1, h2]⟩

theorem valid_iff (w : WindowRecord) : w.valid = true ↔ w.enabled = false ∨ ∀ c ∈ w.conditions, c = true := by
  unfold WindowRecord.valid WindowRecord.firstFailure?
  cases w.enabled <;> simp

/-! ## Legs -/

/-- A leg that a reference names stands on an open READ or WRITE. -/
theorem leg?_some {s : State} {x : LegRef} {d : DataEntry} {l : Leg} (h : s.leg? x = some (d, l)) :
    s.entry x.entry = .data d ∧ d.legs[x.index]? = some l := by
  unfold State.leg? at h
  split at h
  · rw [Option.map_eq_some_iff] at h
    obtain ⟨m, hm, e⟩ := h
    cases e
    exact ⟨‹_›, hm⟩
  · cases h

theorem modify_eq_set {α : Type} (as : List α) (i : Nat) (f : α → α) {a : α} (h : as[i]? = some a) :
    as.modify i f = as.set i (f a) := by
  apply List.ext_getElem?
  intro j
  rw [List.getElem?_modify, List.getElem?_set]
  by_cases e : i = j
  · subst e
    simp [h]
    exact (List.getElem?_eq_some_iff.mp h).1
  · simp [e]

/-- A change of a leg that is there. -/
theorem updateLeg_eq {s : State} {x : LegRef} {d : DataEntry} {l : Leg} (h : s.leg? x = some (d, l))
    (f : Leg → Leg) : s.updateLeg x f = s.setEntry x.entry (.data { d with legs := d.legs.set x.index (f l) }) := by
  obtain ⟨h1, h2⟩ := leg?_some h
  simp only [State.updateLeg, h1, modify_eq_set _ _ _ h2]

theorem numbers_length (p : Parts) : p.numbers.length = p.count := by
  unfold Parts.numbers Parts.count
  split <;> rfl

/-- Fresh legs on one segment: the entry's leg list and the segment's queue grow, and nothing else changes. -/
theorem createLegs_eq {s : State} {t : Tag} {d : DataEntry} (h : s.entry t = .data d) (g : SegId) :
    s.createLegs t g = (s.setEntry t (.data { d with
      legs := d.legs ++ d.parts.numbers.map fun p => { seg := g, part := p, state := .queued, timeouts := 0 } })).setSeg g
      { s.seg g with queue := (s.seg g).queue ++ (List.range d.parts.count).map fun n =>
        { entry := t, index := d.legs.length + n } } := by
  simp only [State.createLegs, h]
  rfl

/-! ## Rises of free slots -/

/-- A marked rise is offered once: the mark is cleared and the waiters are looked at. -/
theorem offerRise_marked {s : State} {g : SegId} (h : (s.seg g).risen = true) :
    s.offerRise g = State.serveWaiters (s.setSeg g { s.seg g with risen := false }) g := by
  simp [State.offerRise, h]

/-- Without a marked rise no waiter is looked at. -/
theorem offerRise_unmarked {s : State} {g : SegId} (h : (s.seg g).risen = false) : s.offerRise g = s := by
  simp [State.offerRise, h]

/-- A rise offered where it comes about: the waiters are looked at in the state without the mark. -/
theorem rise_offerRise (s : State) (g : SegId) :
    (s.rise g).offerRise g = State.serveWaiters (s.setSeg g { s.seg g with risen := false }) g := by
  rw [offerRise_marked (by simp [State.rise])]
  simp [State.rise, State.setSeg, State.seg]

/-! ## Level sets -/

/-- A test on levels is its table of eight values. -/
theorem eta_levels (p : LevelId → Bool) :
    (fun m : LevelId => (#v[p 0, p 1, p 2, p 3, p 4, p 5, p 6, p 7])[m]) = p := by
  funext ⟨m, hm⟩
  have : m = 0 ∨ m = 1 ∨ m = 2 ∨ m = 3 ∨ m = 4 ∨ m = 5 ∨ m = 6 ∨ m = 7 := by omega
  rcases this with h | h | h | h | h | h | h | h <;> subst h <;> rfl

/-- Bit `l` of a level set is the test's answer for level `l`. -/
theorem levelsWhere_getLsbD (p : LevelId → Bool) (l : LevelId) : (levelsWhere p).getLsbD l.val = p l := by
  have all : ∀ a b c d e f g h : Bool, ∀ l : Fin 8,
      (levelsWhere (fun m => (#v[a, b, c, d, e, f, g, h])[m])).getLsbD l.val = (#v[a, b, c, d, e, f, g, h])[l] := by
    decide +kernel
  have h := all (p 0) (p 1) (p 2) (p 3) (p 4) (p 5) (p 6) (p 7) l
  rw [eta_levels p] at h
  rw [h]
  exact congrFun (eta_levels p) l

/-- A level set has eight bits. -/
theorem levelsWhere_lt (p : LevelId → Bool) : (levelsWhere p).toNat < 256 := by
  have all : ∀ a b c d e f g h : Bool,
      (levelsWhere (fun m => (#v[a, b, c, d, e, f, g, h])[m])).toNat < 256 := by decide +kernel
  have h := all (p 0) (p 1) (p 2) (p 3) (p 4) (p 5) (p 6) (p 7)
  rwa [eta_levels p] at h

/-! ## RELEASE beside a segment that leaves service (R154) -/

@[simp] theorem levelSegment_deviceLevel (g : SegId) : State.levelSegment? (deviceLevel g) = some g := by
  revert g; decide

/-- Serving the attention queue puts no level into service and takes none out of it (R153). -/
theorem serveReports_service (s : State) (g : SegId) (l : LevelId) :
    ((s.serveReports g).level l).service = (s.level l).service := by
  unfold State.serveReports
  split
  · split
    · rfl
    · dsimp only
      split
      · rfl
      · rw [State.raise, State.level_setLevel]
        split <;> simp_all [Level.raised, State.placeOnLine]
  · rfl

/-- R154's fourth case, RELEASE first, where the raise still waits in its latch when the queue is emptied: the level
ends out of service and not requested. -/
theorem release_then_dropReports (s : State) (g : SegId) :
    let t := (s.releaseLevel (deviceLevel g)).dropReports g
    t.inService (deviceLevel g) = false ∧ t.requested (deviceLevel g) = false := by
  simp [State.inService, State.requested, State.dropReports, State.releaseLevel, serveReports_service]

/-- R154's fourth case, the change of state first: the RELEASE finds an empty queue, sends no ATTN_ACK, and the level
ends out of service and not requested. -/
theorem dropReports_then_release (s : State) (g : SegId) :
    let t := (s.dropReports g).releaseLevel (deviceLevel g)
    t.inService (deviceLevel g) = false ∧ t.requested (deviceLevel g) = false ∧ (t.seg g).line = (s.seg g).line := by
  simp [State.inService, State.requested, State.dropReports, State.releaseLevel, State.serveReports]

/-! ## Lowest of a list -/

/-- The first answer along a rising list is the lowest element's that has one. -/
theorem findSome_lowest {α β : Type} [LT α] {as : List α} (rising : as.Pairwise (· < ·)) {a : α} (ha : a ∈ as)
    {f : α → Option β} {b : β} (hf : f a = some b) (lowest : ∀ c ∈ as, c < a → f c = none) :
    as.findSome? f = some b := by
  induction as with
  | nil => cases ha
  | cons x xs ih =>
    rw [List.pairwise_cons] at rising
    rw [List.findSome?_cons]
    rcases List.mem_cons.mp ha with rfl | h
    · rw [hf]
    · rw [lowest x (by simp) (rising.1 a h)]
      exact ih rising.2 h (fun c hc => lowest c (by simp [hc]))

theorem allTags_rising : allTags.Pairwise (· < ·) := by decide

end Sys2Proof.Machine
end

