-- ==== Sys2Proof/Laws/Steps.lean ====
section
/-! SUPPORT. Said once: what a whole step can do. `P` holds between steps, `Q` while a taken frame awaits its
answer; properties that the changes below keep hold after every step (`Steps.step`). -/

namespace Sys2Proof.Machine

/-- The changes of a step beyond those of `Keeps`. -/
structure Steps (P Q : State → Prop) : Prop where
  p : Keeps P
  q : Keeps Q
  /-- A frame is taken: its answer's place is held (R169). -/
  take : ∀ {s f rest}, s.tp.rx = f :: rest → s.mayTake = true → P s →
    Q { s with tp.rx := rest, tp.held := s.tp.held + 1 }
  /-- The immediate answer takes the held place (R168). -/
  answer : ∀ {s} (r : Response), Q s → P (s.placeResponse r)
  /-- The hold passes to an accepted READ or WRITE (R41, R168). -/
  openData : ∀ {s} (t : Tag) (d : DataEntry), s.entry t = .free → d.phase = .pending →
    d.bank = s.wb.active → d.legs = [] → Q s → P ((s.setEntry t (.data d)).countIn d.bank)
  /-- The hold passes to an accepted FLUSH (R43, R168). -/
  openFlush : ∀ {s} (t : Tag), s.entry t = .free → s.openTags ≠ [] → Q s →
    P (s.setEntry t (.flushing s.openTags s.openTags.length))
  shadow : ∀ {s} (w : WindowId) (j : Fin 4) (x : Word), s.wb.draining = false → Q s →
    Q { s with wb := s.wb.writeShadow w j x }
  config : ∀ {s} (g : SegId) (window timeout threshold : Nat), (s.seg g).state.idle = true →
    (window = (s.seg g).sendWindow ∨ 1 ≤ window ∧ window ≤ 4) →
    (timeout = (s.seg g).legTimeout ∨ 10 ≤ timeout ∧ timeout ≤ 65535) →
    (threshold = (s.seg g).faultThreshold ∨ 1 ≤ threshold ∧ threshold ≤ 15) → Q s →
    Q (s.setSeg g { s.seg g with sendWindow := window, legTimeout := timeout, faultThreshold := threshold })
  masks : ∀ {s} (x : Word), Q s → Q { s with
    au.levels := s.au.levels.mapFinIdx fun i lv _ => { lv with masked := x.getLsbD i } }
  interval : ∀ {s} (n : Nat), n ≤ 255 → Q s → Q { s with au.interval := n }
  readClear : ∀ {s} (i : Fin 49), Q s → Q (s.readEffect (.counterClear i))
  swap : ∀ {s}, s.wb.draining = false → s.wb.firstInvalid s.wb.shadow = none → Q s → Q s.swapBanks
  copy : ∀ {s}, s.wb.draining = false → Q s →
    Q { s with wb := s.wb.setBank s.wb.shadow (s.wb.bank s.wb.active) }
  release : ∀ {s} (l : LevelId) (v : Service), (s.level l).service = some v → Q s → Q (s.releaseLevel l)
  /-- A management reset begins to wait (R191). -/
  waits : ∀ {s}, P s → P { s with cb.resetWaiting := true, tp.rx := [] }
  report : ∀ {s} (g : SegId) (source : Byte), (s.seg g).state.carries = true → P s →
    P (s.takeReport g source)
  pins : ∀ {s} (pins : Pins) (qualifying loss : Option Nat), P s →
    P { s with pins := pins, tp.qualifying := qualifying, tp.loss := loss }
  elapse : ∀ {s} (n : Nat), P s → P (s.elapse n)
  up : ∀ {s}, s.tp.link = .down → P s → P { s with tp.link := .up, tp.qualifying := none }
  down : ∀ {s}, P s → P { s with
    tp.link := .down, tp.loss := none, tp.qualifying := none, tp.rx := [], tp.tx := [] }
  returned : ∀ {s}, P s → P s.attentionLoss
  reset : ∀ {s}, P s → P s.applyManagementReset
  arrives : ∀ {s} (f : RxFrame), s.tp.link = .up → s.tp.rx.length < Config.receiveCapacity → P s →
    P { s with tp.rx := s.tp.rx ++ [f] }
  sent : ∀ {s} (f : TxFrame) (rest : List TxFrame), s.tp.tx = f :: rest → P s → P (s.sendFrame f rest)
  fresh : ∀ (pins : Pins) (pending : List Instr), P { State.reset with pins := pins, pending := pending }
  queue : ∀ {s} (pending : List Instr), P s → P { s with pending := pending }

namespace Steps

variable {P Q : State → Prop} {s : State}

theorem runOut (k : Steps P Q) {n : Nat} {t : State} (e : s.runOut? n = some t) (h : P s) : P t := by
  unfold State.runOut? at e
  split at e
  · cases e; exact h
  · split at e
    · cases e; exact k.elapse n h
    · cases e

theorem tick (k : Steps P Q) (h : P s) : P s.tick := by
  unfold State.tick
  split
  · exact k.elapse 1 h
  · exact h

/-! ## Taken frames -/

theorem answered (k : Steps P Q) (f : RxFrame) (status : Status) (detail : Word) (data : List Word)
    (h : Q s) : P (s.answer f status detail data) :=
  k.answer _ h

theorem answerMalformed (k : Steps P Q) (f : RxFrame) (h : Q s) : P (s.answerMalformed f) :=
  k.p.count _ _ (k.answered f _ _ _ h)

theorem takeFrame (k : Steps P Q) (row : TakenRow) (owner : State → RxFrame → State)
    (ho : ∀ s f, Q s → P (owner s f)) (h : P s) :
    P (s.takeFrame row owner) := by
  unfold State.takeFrame
  split
  · rename_i f rest e
    split
    · rename_i hc
      simp only [Bool.and_eq_true] at hc
      exact k.p.finish _ (ho _ f (k.take e hc.1 h))
    · exact h
  · exact h

theorem withFreeTag (k : Steps P Q) (f : RxFrame) (go : State → State) (hg : Q s → P (go s)) (h : Q s) :
    P (s.withFreeTag f go) := by
  unfold State.withFreeTag
  split
  · exact k.answered f _ _ _ h
  · exact hg h

/-! ## READ, WRITE, FLUSH, CANCEL -/

/-- What an accepted admission hands on (R41). -/
structure Accepted (s : State) (f : RxFrame) (d : DataEntry) (legged : List SegId) : Prop where
  free : s.entry f.tag = .free
  phase : d.phase = .pending
  bank : d.bank = s.wb.active
  legs : d.legs = []
  nodup : legged.Nodup
  carries : ∀ g ∈ legged, (s.seg g).state.carries = true
  room : ∀ g ∈ legged, d.parts.count ≤ s.freeSlots g

theorem eligible_carries {w : WindowRecord} {g : SegId} (h : g ∈ s.eligible w) :
    (s.seg g).state.carries = true := by
  simp only [State.eligible, List.mem_filter, Bool.and_eq_true] at h
  exact h.2.2

theorem isActive_carries {g : SegId} (h : s.isActive g = true) : (s.seg g).state.carries = true := by
  simp only [State.isActive, beq_iff_eq] at h
  exact Keeps.isActive_carries h

theorem allSegs_nodup : allSegs.Nodup := by decide

theorem leggedForWrite_ok {w : WindowRecord} {data : List Word} {q : Request} {legged : List SegId}
    (h : s.leggedForWrite w data = some (q, legged)) :
    legged.Nodup ∧ ∀ g ∈ legged, (s.seg g).state.carries = true := by
  simp only [State.leggedForWrite, Option.ite_none_right_eq_some, Option.some.injEq, Prod.mk.injEq] at h
  obtain ⟨-, -, rfl⟩ := h
  exact ⟨allSegs_nodup.filter _, fun g => eligible_carries⟩

theorem leggedForRead_ok {w : WindowRecord} {q : Request} {legged : List SegId}
    (h : s.leggedForRead w = some (q, legged)) :
    legged.Nodup ∧ ∀ g ∈ legged, (s.seg g).state.carries = true := by
  unfold State.leggedForRead at h
  split at h
  · simp only [Option.map_eq_some_iff, Prod.exists, Prod.mk.injEq] at h
    obtain ⟨pos, g, found, -, rfl⟩ := h
    exact ⟨by simp, fun g' m => by
      rw [List.mem_singleton.mp m]; exact isActive_carries (Keeps.nextMember_ok found)⟩
  · simp only [Option.ite_none_right_eq_some, Option.some.injEq, Prod.mk.injEq] at h
    obtain ⟨-, -, rfl⟩ := h
    refine ⟨allSegs_nodup.filter _, fun g m => isActive_carries ?_⟩
    simp only [List.mem_filter, Bool.and_eq_true] at m
    exact m.2.2

theorem decode_bank {b : WindowBanks} {isWrite : Bool} {a : Word} {n o : Nat} {bank : Bank} {w : WindowId}
    {ps : Parts} (h : b.decode isWrite a n = .hit bank w o ps) : bank = b.active := by
  unfold WindowBanks.decode at h
  split at h
  · cases h
  · dsimp only at h
    split at h
    · split at h
      · cases h; rfl
      · cases h
    · cases h

theorem admission_ok {isWrite : Bool} {f : RxFrame} {d : DataEntry} {legged : List SegId}
    (h : s.admission isWrite f = .accept d legged) : Accepted s f d legged := by
  unfold State.admission at h
  split at h
  · cases h
  · rename_i free
    split at h
    · cases h
    · split at h
      · cases h
      · cases h
      · cases h
      · rename_i bank w o parts hd
        dsimp only at h
        generalize found : (if isWrite = true then _ else _ : Option (Request × List SegId)) = choice at h
        cases choice with
        | none => cases h
        | some c =>
          dsimp only at h
          split at h
          · rename_i room
            simp only [Admission.accept.injEq] at h
            obtain ⟨rfl, rfl⟩ := h
            simp only [List.all_eq_true, State.hasRoom, Bool.and_eq_true, decide_eq_true_eq] at room
            have ok : c.2.Nodup ∧ ∀ g ∈ c.2, (s.seg g).state.carries = true := by
              split at found
              · exact leggedForWrite_ok found
              · exact leggedForRead_ok found
            refine ⟨?_, rfl, decode_bank hd, rfl, ok.1, ok.2, fun g m => (room g m).1⟩
            cases he : s.entry f.tag with
            | free => rfl
            | data d => simp [State.tagInUse, he, Entry.isOpen] at free
            | flushing b n => simp [State.tagInUse, he, Entry.isOpen] at free
          · cases h

/-- Fresh legs leave other segments and the entry's parts alone. -/
theorem createLegs_seg_of_ne (t : Tag) {g h : SegId} (ne : h ≠ g) : (s.createLegs t g).seg h = s.seg h := by
  unfold State.createLegs
  split
  · exact State.seg_setSeg_of_ne _ _ ne
  · rfl

theorem createLegs_parts (t : Tag) (g : SegId) {d : DataEntry} (e : s.entry t = .data d) :
    ∃ d', (s.createLegs t g).entry t = .data d' ∧ d'.parts = d.parts := by
  rw [State.createLegs, e]
  exact ⟨_, State.entry_setEntry_self .., rfl⟩

theorem createAll (k : Steps P Q) (t : Tag) (legged : List SegId) (d : DataEntry) (e : s.entry t = .data d)
    (nodup : legged.Nodup) (carries : ∀ g ∈ legged, (s.seg g).state.carries = true)
    (room : ∀ g ∈ legged, d.parts.count ≤ s.freeSlots g) (h : P s) :
    P (legged.foldl (fun s g => s.createLegs t g) s) := by
  induction legged generalizing s d with
  | nil => exact h
  | cons g rest ih =>
    have nd := List.nodup_cons.mp nodup
    obtain ⟨d', e', parts⟩ := createLegs_parts (s := s) t g e
    have other : ∀ m ∈ rest, (s.createLegs t g).seg m = s.seg m := fun m hm =>
      createLegs_seg_of_ne t fun eq => nd.1 (eq ▸ hm)
    refine ih d' e' nd.2 (fun m hm => ?_) (fun m hm => ?_) ?_
    · rw [other m hm]; exact carries m (List.mem_cons_of_mem _ hm)
    · rw [State.freeSlots, other m hm, parts]; exact room m (List.mem_cons_of_mem _ hm)
    · refine k.p.createLegs t g (carries g (by simp)) (fun d'' e'' => ?_) h
      rw [e] at e''
      cases e''
      exact room g (by simp)

theorem admitRequest (k : Steps P Q) (isWrite : Bool) (f : RxFrame) (h : Q s) : P (State.admitRequest isWrite s f) := by
  unfold State.admitRequest
  split
  · rename_i status detail e
    unfold State.refuseRequest
    have h1 := k.answered f status detail [] h
    dsimp only
    split
    · exact k.p.count _ _ h1
    · exact k.p.count _ _ h1
    · exact h1
  · rename_i d legged e
    have a := admission_ok e
    refine k.createAll f.tag legged d (State.entry_setEntry_self ..) a.nodup a.carries a.room
      (k.openData f.tag d a.free a.phase a.bank a.legs h)

theorem takeFlush (k : Steps P Q) (f : RxFrame) (h : Q s) : P (s.takeFlush f) := by
  unfold State.takeFlush
  split
  · exact k.answered f _ _ _ h
  · rename_i free
    split
    · exact k.answered f _ _ _ h
    · rename_i ne
      refine k.openFlush f.tag ?_ ne h
      cases he : s.entry f.tag with
      | free => rfl
      | data d => simp [State.tagInUse, he, Entry.isOpen] at free
      | flushing b n => simp [State.tagInUse, he, Entry.isOpen] at free

theorem cancelPending (k : Keeps P) (t : Tag) (h : P s) : P (s.cancelPending t) := by
  unfold State.cancelPending
  dsimp only
  refine Keeps.foldl _ (fun _ g hs => k.offerRise g (k.rise g hs)) _ ?_
  have h1 := k.dropWait t (k.withdrawQueued t h)
  split
  · rename_i d e
    split
    · exact k.entry t d _ e ⟨rfl, rfl, rfl⟩ h1
    · exact k.answerEntry t _ (Keeps.inUse_of_data e) h1
  · exact h1

theorem takeCancel (k : Steps P Q) (f : RxFrame) (h : Q s) : P (s.takeCancel f) := by
  unfold State.takeCancel
  split
  · exact k.answered f _ _ _ h
  · rename_i b n e
    exact k.answered f _ _ _ (k.q.answerEntry _ _ (by simp [State.tagInUse, e, Entry.isOpen]) h)
  · split
    · exact k.answered f _ _ _ (cancelPending k.q _ h)
    · exact k.answered f _ _ _ h
    · exact k.answered f _ _ _ h

/-! ## Control requests -/

/-- A word an accepted CWRITE may write, as far as the state decides it (R185). -/
def Writable (s : State) : ControlObject → Prop
  | .shadowWord _ _ => s.wb.draining = false
  | .sendWindow g | .legTimeout g | .faultThreshold g => (s.seg g).state.idle = true
  | _ => True

theorem writeShadow_draining (b : WindowBanks) (w : WindowId) (j : Fin 4) (x : Word) :
    (b.writeShadow w j x).draining = b.draining := by
  unfold WindowBanks.writeShadow WindowBanks.setBank WindowBanks.draining
  split <;> rfl

theorem writeObject_draining (x : Word) (o : ControlObject) :
    (s.writeObject x o).wb.draining = s.wb.draining := by
  cases o <;> first | rfl | exact writeShadow_draining ..

theorem writeObject_state (x : Word) (o : ControlObject) (g : SegId) :
    ((s.writeObject x o).seg g).state = (s.seg g).state := by
  cases o <;> first
    | rfl
    | (simp only [State.writeObject, State.seg_setSeg]
       split
       · subst g; rfl
       · rfl)

theorem writable_after {o : ControlObject} (x : Word) (p : ControlObject) (h : Writable s o) :
    Writable (s.writeObject x p) o := by
  cases o <;> simp only [Writable] at h ⊢ <;>
    first | (rw [writeObject_draining]; exact h) | (rw [writeObject_state]; exact h)

theorem writeObject (k : Steps P Q) (x : Word) (o : ControlObject) (w : Writable s o)
    (r : o.inRange x = true) (h : Q s) : Q (s.writeObject x o) := by
  cases o with
  | shadowWord win j => exact k.shadow win j x w h
  | sendWindow g =>
    exact k.config g x.toNat (s.seg g).legTimeout (s.seg g).faultThreshold w
      (.inr (by simpa [ControlObject.inRange] using r)) (.inl rfl) (.inl rfl) h
  | legTimeout g =>
    exact k.config g (s.seg g).sendWindow x.toNat (s.seg g).faultThreshold w (.inl rfl)
      (.inr (by simpa [ControlObject.inRange] using r)) (.inl rfl) h
  | faultThreshold g =>
    exact k.config g (s.seg g).sendWindow (s.seg g).legTimeout x.toNat w (.inl rfl) (.inl rfl)
      (.inr (by simpa [ControlObject.inRange] using r)) h
  | maskSet => exact k.masks x h
  | resendInterval => exact k.interval x.toNat (by simpa [ControlObject.inRange] using r) h
  | _ => exact h

theorem writeAll (k : Steps P Q) (ws : List (ControlObject × Word))
    (w : ∀ ox ∈ ws, Writable s ox.1 ∧ ox.1.inRange ox.2 = true) (h : Q s) :
    Q (ws.foldl (fun s ox => s.writeObject ox.2 ox.1) s) := by
  induction ws generalizing s with
  | nil => exact h
  | cons ox rest ih =>
    have here := w ox (by simp)
    refine ih (fun oy m => ?_) (k.writeObject _ _ here.1 here.2 h)
    have later := w oy (List.mem_cons_of_mem _ m)
    exact ⟨writable_after _ _ later.1, later.2⟩

/-- The objects of a mapped span, paired with the data, come from the span's addresses paired with the data. -/
theorem mem_spanObjects_zip {span : List Nat} {data : List Word} (mapped : firstUnmapped? span = none)
    {o : ControlObject} {x : Word} (m : (o, x) ∈ (spanObjects span).zip data) :
    ∃ a, (a, x) ∈ span.zip data ∧ controlObject? a = some o := by
  induction span generalizing data with
  | nil => simp [spanObjects] at m
  | cons a span ih =>
    cases data with
    | nil => simp at m
    | cons y data =>
      simp only [firstUnmapped?, List.find?_cons] at mapped
      cases ha : controlObject? a with
      | none => simp [ha] at mapped
      | some p =>
        simp only [ha, Option.isNone_some] at mapped
        simp only [spanObjects, List.filterMap_cons, ha, List.zip_cons_cons, List.mem_cons,
          Prod.mk.injEq] at m
        rcases m with ⟨rfl, rfl⟩ | m
        · exact ⟨a, by simp, ha⟩
        · obtain ⟨b, mb, eb⟩ := ih mapped m
          exact ⟨b, List.mem_cons_of_mem _ mb, eb⟩

/-- An accepted CWRITE writes only words it may write, with values in range. -/
theorem accepted_writable {f : RxFrame} (h : s.cwriteRefusal? f = none) {o : ControlObject} {x : Word}
    (m : (o, x) ∈ (spanObjects f.span).zip f.data) : Writable s o ∧ o.inRange x = true := by
  unfold State.cwriteRefusal? at h
  dsimp only at h
  repeat' split at h
  all_goals first | contradiction | skip
  rename_i mapped _ _ _ d3 _ d4 _ d5
  obtain ⟨a, ma, ea⟩ := mem_spanObjects_zip mapped m
  have n3 := List.find?_eq_none.mp d3 a (List.of_mem_zip ma).1
  have n4 := List.find?_eq_none.mp d4 a (List.of_mem_zip ma).1
  have n5 := List.find?_eq_none.mp d5 _ ma
  simp only [ea] at n3 n4 n5
  refine ⟨?_, by simpa using n5⟩
  cases o <;> simp_all [Writable, ControlObject.configOf?]

theorem takeCwrite (k : Steps P Q) (f : RxFrame) (h : Q s) : P (s.takeCwrite f) := by
  refine k.withFreeTag f _ (fun h => ?_) h
  split
  · split
    · exact k.answered f _ _ _ h
    · rename_i ok
      exact k.answered f _ _ _ (k.writeAll _ (fun ox m => accepted_writable ok m) h)
  · exact k.answerMalformed f h

theorem takeCread (k : Steps P Q) (f : RxFrame) (h : Q s) : P (s.takeCread f) := by
  refine k.withFreeTag f _ (fun h => ?_) h
  split
  · split
    · exact k.answered f _ _ _ h
    · refine k.answered f _ _ _ (Keeps.foldl _ (fun s o hs => ?_) _ h)
      cases o <;> first | exact hs | exact k.readClear _ hs
  · exact k.answerMalformed f h

theorem takeCommit (k : Steps P Q) (f : RxFrame) (h : Q s) : P (s.takeCommit f) := by
  refine k.withFreeTag f _ (fun h => ?_) h
  split
  · exact k.answered f _ _ _ h
  · split
    · exact k.answered f _ _ _ h
    · exact k.answered f _ _ _ (k.swap (by simp_all) ‹_› h)

theorem takeCopyActive (k : Steps P Q) (f : RxFrame) (h : Q s) : P (s.takeCopyActive f) := by
  refine k.withFreeTag f _ (fun h => ?_) h
  split
  · exact k.answered f _ _ _ h
  · exact k.answered f _ _ _ (k.copy (by simp_all) h)

theorem segmentCommand (k : Steps P Q) (f : RxFrame) (allowed : SegState → Bool) (effect : State → State)
    (he : allowed (s.seg f.operandSegment).state = true → Q s → Q (effect s)) (h : Q s) :
    P (s.segmentCommand f allowed effect) := by
  refine k.withFreeTag f _ (fun h => ?_) h
  dsimp only
  split
  · exact k.answered f _ _ _ (he ‹_› h)
  · exact k.answered f _ _ _ h

theorem syncSegment (k : Keeps P) (g : SegId) (was : (s.seg g).state = .rejoining) (h : P s) :
    P (s.syncSegment g) :=
  k.seg g _ (.synced _ was) h

theorem takeManagementReset (k : Steps P Q) (f : RxFrame) (h : Q s) : P (s.takeManagementReset f) := by
  refine k.withFreeTag f _ (fun h => ?_) h
  exact k.waits (k.answered f _ _ _ h)

theorem takeRelease (k : Steps P Q) (f : RxFrame) (h : Q s) : P (s.takeRelease f) := by
  refine k.withFreeTag f _ (fun h => ?_) h
  split
  · exact k.answerMalformed f h
  · split
    · split
      · exact k.answered f _ _ _ (k.release _ _ ‹_› h)
      · exact k.answered f _ _ _ h
    · exact k.answered f _ _ _ h

/-! ## The trunk port -/

theorem loseTrunk (k : Steps P Q) (h : P s) : P s.loseTrunk := by
  unfold State.loseTrunk
  have h1 := k.p.count (partCounter .linkDownEvents) false (k.returned (k.p.transitLoss (k.down h)))
  dsimp only
  split
  · exact k.reset h1
  · exact h1

theorem receive (k : Steps P Q) (words : List Word) (up : s.tp.link = .up) (h : P s) :
    P (s.receive words) := by
  unfold State.receive
  have h1 := k.p.count (partCounter .framesReceived) false h
  dsimp only
  split
  · exact k.p.count _ _ h1
  · split
    · exact h1
    · split
      · exact k.p.count _ _ h1
      · exact k.arrives _ up (by simp_all) h1

theorem takeAttnReport (k : Steps P Q) (g : SegId) (source : Byte) (h : P s) :
    P (s.takeAttnReport g source) := by
  unfold State.takeAttnReport
  split
  · exact k.report g source ‹_› h
  · exact k.p.count _ _ h

theorem takeUpstream (k : Steps P Q) (g : SegId) (words : List Word) (h : P s) :
    P (s.takeUpstream g words) := by
  unfold State.takeUpstream
  split
  · exact k.p.count _ _ h
  · exact k.p.takeLegDone g _ _ h
  · exact k.p.takeLegRefused g _ _ h
  · exact k.p.takeProbeReply g _ h
  · exact k.takeAttnReport g _ h

/-! ## Whole steps -/

theorem segmentStart (k : Steps P Q) (f : RxFrame) (h : Q s) : P (s.takeStart f) :=
  k.segmentCommand f _ _ (fun idle hq => k.q.startSegment _ _ idle hq) h

theorem segmentStop (k : Steps P Q) (f : RxFrame) (h : Q s) : P (s.takeStop f) :=
  k.segmentCommand f _ _ (fun _ hq => k.q.leaveFor _ _ _ rfl hq) h

theorem segmentSynced (k : Steps P Q) (f : RxFrame) (h : Q s) : P (s.takeSynced f) :=
  k.segmentCommand f _ _ (fun was hq => syncSegment k.q _ (by simpa using was) hq) h

theorem segmentReset (k : Steps P Q) (f : RxFrame) (h : Q s) : P (s.takeReset f) :=
  k.segmentCommand f _ _ (fun _ hq => k.q.leaveFor _ _ _ rfl hq) h

theorem pornAsserted (k : Steps P Q) {t : State} (e : execPornAsserted s = .next t) : P t := by
  cases e; exact k.fresh _ _

theorem pornReleased (k : Steps P Q) {t : State} (e : execPornReleased s = .next t) (h : P s) : P t := by
  cases e
  split
  · exact k.pins { s.pins with porn := false } _ s.tp.loss h
  · exact h

theorem lockAcquired (k : Steps P Q) {t : State} (e : execReceiverLockAcquired s = .next t) (h : P s) :
    P t := by
  cases e
  split
  · exact h
  · exact k.pins { s.pins with signal := true, lock := true, idle := true } _ _ h

theorem linkQualified (k : Steps P Q) {t : State} (e : execLinkQualified s = .next t) (h : P s) : P t := by
  cases e
  split
  · rename_i down _
    split
    · rename_i u hu
      have link : u.tp.link = .down := by
        unfold State.runOut? at hu
        split at hu
        · cases hu; exact down
        · split at hu
          · cases hu; exact down
          · cases hu
      exact k.p.finish _ (k.up link (k.runOut hu h))
    · exact h
  · exact h

theorem trunkLoss (k : Steps P Q) {t : State} (e : execTrunkLoss s = .next t) (h : P s) : P t := by
  cases e
  split
  · split
    · exact k.p.finish _ (k.loseTrunk (k.runOut ‹_› h))
    · exact h
  · exact h

theorem frameReceived (k : Steps P Q) {words : List Word} {t : State}
    (e : execFrameReceived words s = .next t) (h : P s) : P t := by
  cases e
  split
  · rename_i c
    simp only [Bool.and_eq_true, beq_iff_eq] at c
    exact k.p.finish _ (k.receive words c.2 h)
  · exact h

theorem frameSent (k : Steps P Q) {t : State} (e : execFrameSent s = .next t) (h : P s) : P t := by
  cases e
  split
  · split
    · refine k.p.finish _ ?_
      split
      · exact k.reset (k.sent _ _ ‹_› h)
      · exact k.sent _ _ ‹_› h
    · exact h
  · exact h

theorem resetTakesEffect (k : Steps P Q) {t : State} (e : execManagementResetTakesEffect s = .next t)
    (h : P s) : P t := by
  cases e
  split
  · split
    · exact k.p.finish _ (k.reset h)
    · exact k.p.finish _ (k.reset (k.sent _ _ ‹_› h))
    · exact h
  · exact h

theorem sendLeg (k : Steps P Q) {g : SegId} {t : State} (e : execSendLeg g s = .next t) (h : P s) : P t := by
  cases e
  split
  · split
    · rename_i c
      simp only [Bool.and_eq_true] at c
      exact k.p.finish _ (k.p.sendHead g _ _ ‹_› c.2 h)
    · exact h
  · exact h

theorem legTimerExpiry (k : Steps P Q) {g : SegId} {tag : LegTag} {t : State}
    (e : execLegTimerExpiry g tag s = .next t) (h : P s) : P t := by
  cases e
  split
  · split
    · exact k.p.finish _ (k.p.legExpired g _ (k.runOut ‹_› h))
    · exact h
  · exact h

/-- Time alone leaves a segment's state as it is, apart from its timer. -/
theorem runOut_carries {n : Nat} {t : State} (e : s.runOut? n = some t) (g : SegId) :
    (t.seg g).state.carries = (s.seg g).state.carries := by
  unfold State.runOut? at e
  split at e
  · cases e; rfl
  · split at e
    · cases e
      simp only [State.seg, State.elapse, Fin.getElem_fin, Vector.getElem_map, SegCtl.elapse]
      cases s.sc[g.val].state <;> rfl
    · cases e

theorem probeTimeout (k : Steps P Q) {g : SegId} {t : State} (e : execProbeTimeout g s = .next t)
    (h : P s) : P t := by
  cases e
  split
  · rename_i st
    split
    · rename_i hu
      refine k.p.finish _ (k.p.probeExpired g _ ?_ (k.runOut hu h))
      rw [runOut_carries hu, st]; rfl
    · exact h
  · exact h

theorem lineResetExpiry (k : Steps P Q) {g : SegId} {t : State} (e : execLineResetExpiry g s = .next t)
    (h : P s) : P t := by
  cases e
  split
  · rename_i st
    split
    · rename_i hu
      refine k.p.finish _ (k.p.seg g _ (.between _ .offline ?_ rfl) (k.runOut hu h))
      rw [runOut_carries hu, st]; rfl
    · exact h
  · exact h

theorem resendDeadlineExpiry (k : Steps P Q) {l : LevelId} {t : State}
    (e : execResendDeadlineExpiry l s = .next t) (h : P s) : P t := by
  cases e
  split
  · split
    · split
      · exact k.p.finish _ (k.p.resendExpired l _ ‹_› (k.runOut ‹_› h))
      · exact k.runOut ‹_› h
    · exact h
  · exact h

theorem live (k : Steps P Q) {u : State} {b : Bool} (hu : P u) (h : P s) :
    P (if b then u.finish s else s) := by
  split
  · exact k.p.finish _ hu
  · exact h

/-- Every command keeps `P`. -/
theorem exec (k : Steps P Q) {c : Instr} {t : State} (e : exec c s = .next t) (h : P s) : P t := by
  cases c with
  | pornAsserted => exact k.pornAsserted e
  | pornReleased => exact k.pornReleased e h
  | refclkLost => cases e; exact k.pins { s.pins with refclk := false } s.tp.qualifying s.tp.loss h
  | refclkRestored => cases e; exact k.pins { s.pins with refclk := true } s.tp.qualifying s.tp.loss h
  | receiverLockAcquired => exact k.lockAcquired e h
  | receiverLockLost what => cases e; exact k.pins _ _ _ h
  | linkQualified => exact k.linkQualified e h
  | trunkLoss => exact k.trunkLoss e h
  | frameReceived words => exact k.frameReceived e h
  | malformedFrame => cases e; exact k.takeFrame _ _ (fun _ f => k.answerMalformed f) h
  | read => cases e; exact k.takeFrame _ _ (fun _ f => k.admitRequest false f) h
  | write => cases e; exact k.takeFrame _ _ (fun _ f => k.admitRequest true f) h
  | flush => cases e; exact k.takeFrame _ _ (fun _ f => k.takeFlush f) h
  | cancel => cases e; exact k.takeFrame _ _ (fun _ f => k.takeCancel f) h
  | shadowWindowWrite => cases e; exact k.takeFrame _ _ (fun _ f => k.takeCwrite f) h
  | segmentConfigWrite => cases e; exact k.takeFrame _ _ (fun _ f => k.takeCwrite f) h
  | maskSetWrite => cases e; exact k.takeFrame _ _ (fun _ f => k.takeCwrite f) h
  | resendIntervalWrite => cases e; exact k.takeFrame _ _ (fun _ f => k.takeCwrite f) h
  | cwrite => cases e; exact k.takeFrame _ _ (fun _ f => k.takeCwrite f) h
  | counterReadAndClear => cases e; exact k.takeFrame _ _ (fun _ f => k.takeCread f) h
  | commit => cases e; exact k.takeFrame _ _ (fun _ f => k.takeCommit f) h
  | copyActive => cases e; exact k.takeFrame _ _ (fun _ f => k.takeCopyActive f) h
  | segmentStart => cases e; exact k.takeFrame _ _ (fun _ f => k.segmentStart f) h
  | segmentStop => cases e; exact k.takeFrame _ _ (fun _ f => k.segmentStop f) h
  | segmentSynced => cases e; exact k.takeFrame _ _ (fun _ f => k.segmentSynced f) h
  | segmentReset => cases e; exact k.takeFrame _ _ (fun _ f => k.segmentReset f) h
  | managementReset => cases e; exact k.takeFrame _ _ (fun _ f => k.takeManagementReset f) h
  | unknownCommandCode =>
    cases e; exact k.takeFrame _ _ (fun _ f => k.withFreeTag f _ (k.answerMalformed f)) h
  | release => cases e; exact k.takeFrame _ _ (fun _ f => k.takeRelease f) h
  | frameSent => exact k.frameSent e h
  | managementResetTakesEffect => exact k.resetTakesEffect e h
  | sendLeg g => exact k.sendLeg e h
  | failoverWaitServed g => cases e; exact k.live (k.p.offerRise g h) h
  | legDone g tag data => cases e; exact k.live (k.p.takeLegDone g tag data h) h
  | legRefused g tag code => cases e; exact k.live (k.p.takeLegRefused g tag code h) h
  | probeReply g tag => cases e; exact k.live (k.p.takeProbeReply g tag h) h
  | attnReport g source => cases e; exact k.live (k.takeAttnReport g source h) h
  | corruptFrame g words => cases e; exact k.live (k.takeUpstream g words h) h
  | legTimerExpiry g tag => exact k.legTimerExpiry e h
  | probeTimeout g => exact k.probeTimeout e h
  | lineResetExpiry g => exact k.lineResetExpiry e h
  | attentionDelivery => cases e; exact k.live h h
  | resendDeadlineExpiry l => exact k.resendDeadlineExpiry e h
  | deferredResend => cases e; exact k.live h h

/-- Every step keeps `P`. -/
theorem step (k : Steps P Q) {t : State} (e : step s = .next t) (h : P s) : P t := by
  unfold Machine.step at e
  split at e
  · exact k.exec e (k.queue _ h)
  · cases e; exact k.tick h

end Steps

end Sys2Proof.Machine
end

