-- ==== Sys2Proof/WellFormed.lean ====
section
/-! DEFINITION. Which commands the outside can produce. Segments, tags, levels and codes are bounded by their
types; the checks left are on word lists. -/

namespace Sys2Proof

open Machine

/-- A trunk frame that arrives has at least one word (11_statistics_counters.md, procedure step 4). A LEG_DONE
carries at most 16 data words (R177). A corrupt frame has a word and is corrupt by R107 and R177. -/
def Instr.wellFormed : Instr → Bool
  | .frameReceived words => !words.isEmpty
  | .legDone _ _ data => data.length ≤ 16
  | .corruptFrame _ words => !words.isEmpty && (UpFrame.ofWords? words).isNone
  | .pornAsserted => true
  | .pornReleased => true
  | .refclkLost => true
  | .refclkRestored => true
  | .receiverLockAcquired => true
  | .receiverLockLost _ => true
  | .linkQualified => true
  | .trunkLoss => true
  | .malformedFrame => true
  | .read => true
  | .write => true
  | .flush => true
  | .cancel => true
  | .shadowWindowWrite => true
  | .segmentConfigWrite => true
  | .maskSetWrite => true
  | .resendIntervalWrite => true
  | .cwrite => true
  | .counterReadAndClear => true
  | .commit => true
  | .copyActive => true
  | .segmentStart => true
  | .segmentStop => true
  | .segmentSynced => true
  | .segmentReset => true
  | .managementReset => true
  | .unknownCommandCode => true
  | .release => true
  | .frameSent => true
  | .managementResetTakesEffect => true
  | .sendLeg _ => true
  | .failoverWaitServed _ => true
  | .legRefused _ _ _ => true
  | .probeReply _ _ => true
  | .attnReport _ _ => true
  | .legTimerExpiry _ _ => true
  | .probeTimeout _ => true
  | .lineResetExpiry _ => true
  | .attentionDelivery => true
  | .resendDeadlineExpiry _ => true
  | .deferredResend => true

end Sys2Proof
end

