-- ==== Sys2Proof/Tests/Slice0.lean ====
section
/-! SUPPORT. The model's own tests: ill-formed commands, the frame check, one step per command, and for every
statement with hypotheses a state and operands that meet them. -/

namespace Sys2Proof.Tests

open Sys2Proof Sys2Proof.Machine

-- one test after the other: side by side they ask for more threads than the memory limit grants
set_option Elab.async false

/-! ## Sample states -/

/-- The state a command leaves. -/
def after (o : Host.Outcome State Fault Refusal) : State :=
  match o with
  | .next t => t
  | _ => .reset

/-- Link UP, a frame at the head of the receive buffer. -/
def withFrame (s : State) (f : RxFrame) : State := { s with tp.link := .up, tp.rx := [f] }

def linked : State := { State.reset with tp.link := .up }

/-- An enabled READ_WRITE window of 16 words at 16 in a period of 32, on segments 0 and 1, WRAP. -/
def window : WindowRecord :=
  { WindowRecord.zero with
    enabled := true, k := 4, p := 5, base := 16, writeSet := 3, page := 2, retryLimit := 1,
    readList := #v[0, 1, 2, 3], readLength := 2 }

/-- Bank A's window 0 is `w`; segment 0 is ACTIVE and 1 REJOINING. -/
def mapped (w : WindowRecord) : State :=
  { linked with
    wb.bankA := linked.wb.bankA.set 0 w
    sc := (linked.sc.set 0 { SegCtl.reset with state := .active }).set 1 { SegCtl.reset with state := .rejoining } }

/-- A part of a request for words 4 and 5 of the window. -/
def onePart : Parts := { first := ⟨0x020004, 2⟩, second := none }

def readEntry (phase : Phase) (legs : List Leg) : DataEntry :=
  { phase := phase, bank := .a, window := 0, parts := onePart, request := .preferred 0 none, legs := legs }

def leg (seg : SegId) (state : LegState) : Leg := { seg := seg, part := .one, state := state, timeouts := 0 }

/-- Tag 3 is a READ with a leg SENT on segment 0 under leg tag 5, its timer at 7 µs. -/
def reading : State :=
  { mapped window with
    tt := State.reset.tt.set 3 (.data (readEntry .pending [leg 0 .sent]))
    wb := { (mapped window).wb with inflightA := 1 }
    tp.held := 1
    sc := (mapped window).sc.set 0 { SegCtl.reset with
      state := .active, legTag := 6, sent := [{ ref := ⟨3, 0⟩, tag := 5, timer := 7 }] } }

/-- Tag 3 is an entry as given. -/
def holding (e : Entry) : State := { mapped window with tt := State.reset.tt.set 3 e }

/-- Segment `g` is in state `st`. -/
def segIn (g : SegId) (st : SegState) : State := linked.setSeg g { SegCtl.reset with state := st }

/-- Level `l` is requested or in service. -/
def levelIs (l : LevelId) (latch : Option Word) (service : Option Service) : State :=
  linked.setLevel l { latch := latch, masked := false, service := service }

def request (k : RequestKind) (count : Nat) (payload : List Word) : RxFrame := .ofRequest k 3 count payload

def command (code operand : Word) : RxFrame := request .command 0 [code, operand]

/-! ## Ill-formed commands and the frame check -/

theorem test_wf_frame_empty : (Instr.frameReceived []).wellFormed = false := by decide
theorem test_wf_frame : (Instr.frameReceived [0]).wellFormed = true := by decide
theorem test_wf_legDone_long : (Instr.legDone 0 0 (List.replicate 17 0)).wellFormed = false := by decide
theorem test_wf_legDone : (Instr.legDone 0 0 (List.replicate 16 0)).wellFormed = true := by decide
theorem test_wf_corrupt_empty : (Instr.corruptFrame 0 []).wellFormed = false := by decide
theorem test_wf_corrupt_intact : (Instr.corruptFrame 0 (UpFrame.words (.probeReply 1))).wellFormed = false := by
  decide +kernel
theorem test_wf_corrupt : (Instr.corruptFrame 0 [1, 2, 3]).wellFormed = true := by decide +kernel

/-- The check word of the octets "12345678", computed outside the model by the usual table-free algorithm. -/
theorem test_checkWord : checkWord [0x31323334, 0x35363738] = 0xb61c3d04 := by decide +kernel

/-- A READ of two words at address 0x14 under tag 3, written out from R175. -/
theorem test_request_words : (request .read 2 [0x14]).header = 0x01030201 := by decide
theorem test_response_words :
    (TxFrame.words (.response ((request .read 2 [0x14]).reply .noWindow 0))).dropLast
      = [0x80030002, 0x01050000, 0] := by decide +kernel
theorem test_attention_words :
    (TxFrame.words (.attention 2 9 0x55)).dropLast = [0x81000002, 0x00090002, 0x55] := by decide +kernel
theorem test_leg_words :
    (DownFrame.words (.legRead 5 0x020004 2)).dropLast = [0x25020000, 0x020004] := by decide +kernel

/-! ## Steps -/

theorem test_step_front : after (step { State.reset with pending := [.refclkLost] })
    = { State.reset with pins.refclk := false } := by decide +kernel
theorem test_step_idle : after (step State.reset) = State.reset := by decide +kernel
theorem test_tick : (after (step reading)).seg 0 = { reading.seg 0 with
    sent := [{ ref := ⟨3, 0⟩, tag := 5, timer := 6 }] } := by decide +kernel

theorem test_pornAsserted : after (exec .pornAsserted reading) = { State.reset with pins.porn := true } := by
  decide +kernel
theorem test_pornReleased : (after (exec .pornReleased { State.reset with
    pins := { porn := true, refclk := true, signal := true, lock := true, idle := true } })).tp.qualifying
      = some 100 := by decide +kernel
theorem test_refclkLost : (after (exec .refclkLost linked)).pins.refclk = false := by decide +kernel
theorem test_refclkRestored : (after (exec .refclkRestored { linked with pins.refclk := false })).pins.refclk = true := by
  decide +kernel
theorem test_lockAcquired : (after (exec .receiverLockAcquired State.reset)).tp.qualifying = some 100 := by
  decide +kernel
theorem test_lockLost : (after (exec (.receiverLockLost .lock) linked)).tp.loss = some 50 := by decide +kernel
theorem test_linkQualified :
    (after (exec .linkQualified { State.reset with tp.qualifying := some 100 })).tp.link = .up := by decide +kernel
theorem test_trunkLoss : (after (exec .trunkLoss { reading with tp.loss := some 50 })).entry 3
    = .data (readEntry .abandoned [leg 0 .sent]) := by decide +kernel
theorem test_frameReceived : (after (exec (.frameReceived (request .flush 0 []).words) linked)).tp.rx
    = [request .flush 0 []] := by decide +kernel
theorem test_frameReceived_check : (after (exec (.frameReceived [1, 2]) linked)).counter 41 = 1 := by decide +kernel
theorem test_malformedFrame : (after (exec .malformedFrame (withFrame linked ⟨0x05030000, []⟩))).tp.tx
    = [.response {
        kind := 5, tag := 3, status := .malformed, applied := 0, skipped := 0, dissent := false,
        detail := 0, data := [] }] := by decide +kernel
theorem test_read : (after (exec .read (withFrame (mapped window) (request .read 2 [0x14])))).entry 3
    = .data (readEntry .pending [leg 0 .queued]) := by decide +kernel
theorem test_read_noWindow : (after (exec .read (withFrame linked (request .read 2 [0x14])))).tp.tx
    = [.response ((request .read 2 [0x14]).reply .noWindow 0)] := by decide +kernel
theorem test_write_wraps :
    (after (exec .write (withFrame (mapped window) (request .write 3 [0x1E, 1, 2, 3])))).entry 3
      = .data {
          phase := .pending, bank := .a, window := 0, request := .write [1, 2, 3] 0,
          parts := { first := ⟨0x02000E, 2⟩, second := some ⟨0x020000, 1⟩ },
          legs := [leg 0 .queued, { leg 0 .queued with part := .two }, leg 1 .queued,
            { leg 1 .queued with part := .two }] } := by decide +kernel
theorem test_flush : (after (exec .flush (withFrame reading (.ofRequest .flush 7 0 [])))).entry 7
    = .flushing [3] 1 := by decide +kernel
theorem test_cancel : (after (exec .cancel (withFrame reading (request .cancel 0 [])))).entry 3
    = .data (readEntry .cancelling [leg 0 .sent]) := by decide +kernel
theorem test_shadowWindowWrite : (after (exec .shadowWindowWrite
    (withFrame linked (request .cwrite 1 [5, 0x1234])))).wb.bankB[1].base = 0x1234 := by decide +kernel
theorem test_segmentConfigWrite : ((after (exec .segmentConfigWrite
    (withFrame linked (request .cwrite 2 [0x320, 3, 77])))).seg 1).legTimeout = 77 := by decide +kernel
theorem test_maskSetWrite : ((after (exec .maskSetWrite
    (withFrame linked (request .cwrite 1 [0x400, 0xFD])))).level 1).masked = false := by decide +kernel
theorem test_resendIntervalWrite : (after (exec .resendIntervalWrite
    (withFrame linked (request .cwrite 1 [0x404, 255])))).au.interval = 255 := by decide +kernel
theorem test_cwrite : (after (exec .cwrite (withFrame linked (request .cwrite 2 [0x404, 1, 2])))).tp.tx
    = [.response ((request .cwrite 2 [0x404, 1, 2]).reply .noObject 0x405)] := by decide +kernel
theorem test_counterReadAndClear : (after (exec .counterReadAndClear
    { withFrame linked (request .cread 1 [0x628]) with cb.counters := linked.cb.counters.set 40 9 })).tp.tx
      = [.response ((request .cread 1 [0x628]).reply .ok 0 [9])] := by decide +kernel
theorem test_commit : (after (exec .commit (withFrame linked (command 0x01 0)))).wb.active = .b := by decide +kernel
theorem test_commit_raises : ((after (exec .commit (withFrame linked (command 0x01 0)))).level 6).latch = some 0 := by
  decide +kernel
theorem test_copyActive : (after (exec .copyActive (withFrame (mapped window) (command 0x02 0)))).wb.bankB[0]
    = window := by decide +kernel
theorem test_segmentStart : ((after (exec .segmentStart (withFrame linked (command 0x10 0x102)))).seg 2).state
    = .probing 0 1000 true := by decide +kernel
theorem test_segmentStop : ((after (exec .segmentStop (withFrame reading (.ofRequest .command 7 0 [0x11, 0])))).seg 0).state
    = .offline := by decide +kernel
theorem test_segmentSynced : ((after (exec .segmentSynced (withFrame reading (.ofRequest .command 7 0 [0x12, 1])))).seg 1).state
    = .active := by decide +kernel
theorem test_segmentReset : ((after (exec .segmentReset (withFrame linked (command 0x13 1)))).seg 1).lineReset
    = true := by decide +kernel
theorem test_managementReset :
    (after (exec .managementReset (withFrame linked (command 0x20 0)))).cb.resetWaiting = true := by decide +kernel
theorem test_unknownCommandCode :
    (after (exec .unknownCommandCode (withFrame linked (command 0x03 0)))).counter 42 = 1 := by decide +kernel
theorem test_release : ((after (exec .release (withFrame
    (levelIs 6 none (some ⟨9, 1, .off⟩)) (request .release 0 [6, 9])))).level 6).service = none := by decide +kernel
theorem test_frameSent : (after (exec .frameSent { linked with tp.tx := [.attention 1 2 3] })).tp.tx = [] := by
  decide +kernel
theorem test_managementResetTakesEffect : (after (exec .managementResetTakesEffect
    { reading with cb.resetWaiting := true })).entry 3 = .free := by decide +kernel
theorem test_sendLeg : ((after (exec (.sendLeg 0) ((holding (.data (readEntry .pending [leg 0 .queued]))).setSeg 0
    { SegCtl.reset with state := .active, queue := [⟨3, 0⟩] }))).seg 0).line = [.legRead 0 0x020004 2] := by
  decide +kernel
theorem test_failoverWaitServed : (after (exec (.failoverWaitServed 0) ((holding (.data
    { readEntry .pending [] with request := .preferred 0 (some 0) })).rise 0))).entry 3
      = .data (readEntry .pending [leg 0 .queued]) := by decide +kernel
theorem test_failoverWaitServed_noRise : after (exec (.failoverWaitServed 0) (holding (.data
    { readEntry .pending [] with request := .preferred 0 (some 0) })))
      = holding (.data { readEntry .pending [] with request := .preferred 0 (some 0) }) := by decide +kernel
theorem test_legDone : (after (exec (.legDone 0 5 [8, 9]) reading)).tp.tx
    = [.response {
        kind := 1, tag := 3, status := .ok, applied := 1, skipped := 0, dissent := false,
        detail := 0, data := [8, 9] }] := by decide +kernel
theorem test_legRefused : ((after (exec (.legRefused 0 5 0xAB) reading)).seg 0).lastFailure
    = .deviceRefused 0xAB := by decide +kernel
theorem test_probeReply : ((after (exec (.probeReply 2 4) (segIn 2 (.probing 4 9 false)))).seg 2).state
    = .rejoining := by decide +kernel
theorem test_attnReport : ((after (exec (.attnReport 0 0x42) reading)).seg 0).attention = [0x42] := by decide +kernel
theorem test_corruptFrame : (after (exec (.corruptFrame 1 [1, 2, 3]) linked)).counter 15 = 1 := by decide +kernel
theorem test_legTimerExpiry : ((after (exec (.legTimerExpiry 0 5) reading)).seg 0).queue = [⟨3, 0⟩] := by decide +kernel
/-- A rewind that withdraws nothing raises no slot: a waiter that the free slots cover is not looked at (R86). -/
theorem test_legTimerExpiry_noRise : (after (exec (.legTimerExpiry 0 5) (reading.setEntry 1 (.data
    { readEntry .pending [] with request := .preferred 0 (some 0) })))).waitsOn 0 1 = true := by decide +kernel
theorem test_probeTimeout : ((after (exec (.probeTimeout 2) (segIn 2 (.probing 4 9 false)))).seg 2).state
    = .probing 0 1000 false := by decide +kernel
theorem test_lineResetExpiry : ((after (exec (.lineResetExpiry 2) (segIn 2 (.resetting 2000)))).seg 2).state
    = .offline := by decide +kernel
theorem test_attentionDelivery : (after (exec .attentionDelivery (levelIs 6 (some 1) none))).tp.tx
    = [.attention 6 0 1] := by decide +kernel
theorem test_resendDeadlineExpiry : ((after (exec (.resendDeadlineExpiry 6)
    (levelIs 6 none (some ⟨9, 1, .running 5⟩)))).level 6).service = some ⟨9, 1, .running 20000⟩ := by decide +kernel
theorem test_deferredResend : (after (exec .deferredResend (levelIs 6 none (some ⟨9, 1, .waiting⟩)))).tp.tx
    = [.attention 6 9 1] := by decide +kernel

/-! ## States and operands that meet the hypotheses of the statements -/

/-- A frame on which a row acts, in a state where it may be taken. -/
theorem takes_of {s : State} {f : RxFrame} {row : TakenRow}
    (h : s.pins.porn = false ∧ s.cb.resetWaiting = false ∧ 0 < (withFrame s f).freePlaces ∧ f.row = row) :
    Takes (withFrame s f) row f [] :=
  ⟨rfl, h.1, rfl, h.2.2.1, h.2.1, h.2.2.2⟩

theorem test_meets_EmptyQueueTicks :
    State.reset.pending = [] ∧ State.reset.pins.porn = false ∧ State.reset.pins.refclk = true ∧
    { State.reset.pins with refclk := false }.refclk = false := by decide +kernel

/-- The clock is absent and a timer of every kind has time left. -/
def stopped : State :=
  { ((reading.setSeg 2 { SegCtl.reset with state := .probing 4 9 true }).setSeg 3
      { SegCtl.reset with state := .resetting 2000 }).setLevel 6 ⟨none, true, some ⟨9, 1, .running 1⟩⟩ with
    pins.refclk := false, tp.qualifying := some 1, tp.loss := some 50 }

theorem test_meets_PowerOnResetAndClock :
    stopped.pins.refclk = false ∧ stopped.pending = [] ∧ stopped.pins.porn = false ∧
    stopped.tp.qualifying = some 1 ∧ stopped.tp.loss = some 50 ∧
    (stopped.seg 0).sentUnder? 5 = some { ref := ⟨3, 0⟩, tag := 5, timer := 7 } ∧
    (stopped.seg 2).state = .probing 4 9 true ∧ (stopped.seg 3).state = .resetting 2000 ∧
    (stopped.level 6).service = some ⟨9, 1, .running 1⟩ ∧ linked.pins.refclk = true ∧
    { State.reset.pins with porn := true }.porn = true ∧ Instr.read ≠ .pornReleased := by decide +kernel

theorem test_meets_ReceiverPins :
    State.reset.pins.porn = false ∧ State.reset.pins.signal = false ∧
    { State.reset.pins with signal := true, lock := true, idle := true }.lock = true := by decide +kernel

theorem test_meets_LinkQualified :
    ({ State.reset with tp.qualifying := some 100 }).tp.link = .down ∧
    ({ State.reset with tp.qualifying := some 100 }).pins.refclk = true ∧
    ({ State.reset with tp.qualifying := some 0 }).tp.qualifying = some 0 ∧
    State.reset.tp.qualifying = none ∧ linked.tp.link = .up := by decide +kernel

theorem test_meets_TrunkLoss :
    ({ linked with tp.loss := some 50 }).tp.loss = some 50 ∧ linked.pins.porn = false ∧ linked.pins.refclk = true ∧
    linked.tp.link = .up ∧ linked.tp.loss = none := by decide +kernel

/-- The only leg of `reading` is the one SENT on segment 0. -/
theorem reading_leg {r : LegRef} {d : DataEntry} {l : Leg} (h : reading.leg? r = some (d, l)) :
    r = ⟨3, 0⟩ ∧ l = leg 0 .sent := by
  obtain ⟨h1, h2⟩ := leg?_some h
  obtain ⟨t, i⟩ := r
  have ht : t = 3 := by
    have only : ∀ t : Tag, t ≠ 3 → reading.entry t = .free := by decide +kernel
    refine Decidable.byContradiction fun n => ?_
    rw [only t n] at h1
    cases h1
  subst ht
  have he : reading.entry 3 = .data (readEntry .pending [leg 0 .sent]) := by decide +kernel
  rw [he] at h1
  cases h1
  cases i with
  | zero => simp [readEntry] at h2; exact ⟨rfl, h2.symm⟩
  | succ n => simp [readEntry] at h2

theorem test_meets_LegsPlaced : reading.LegsPlaced where
  queued := by
    have none : ∀ g : SegId, (reading.seg g).queue = [] := by decide +kernel
    intro g r hr
    rw [none g] at hr
    cases hr
  sent := by
    have only : ∀ g : SegId, ∀ x ∈ (reading.seg g).sent, g = 0 ∧ x.ref = ⟨3, 0⟩ := by decide +kernel
    intro g x hx
    obtain ⟨rfl, hr⟩ := only g x hx
    exact ⟨readEntry .pending [leg 0 .sent], leg 0 .sent, by rw [hr]; decide +kernel, rfl, rfl⟩
  once := by decide +kernel
  all := by
    intro r d l h
    obtain ⟨rfl, rfl⟩ := reading_leg h
    decide +kernel

theorem test_meets_Withdrawn : reading.Withdrawn := by
  intro t d h hp
  have only : ∀ t : Tag, t ≠ 3 → reading.entry t = .free := by decide +kernel
  have ht : t = 3 := Decidable.byContradiction fun n => by rw [only t n] at h; cases h
  subst ht
  have he : reading.entry 3 = .data (readEntry .pending [leg 0 .sent]) := by decide +kernel
  rw [he] at h
  cases h
  exact absurd rfl hp

theorem test_meets_LossAbandonsEntries :
    reading.LegsPlaced ∧ reading.Withdrawn ∧ reading.tp.held = reading.openTags.length ∧ reading.InflightExact :=
  ⟨test_meets_LegsPlaced, test_meets_Withdrawn, by decide +kernel, by intro which; cases which <;> decide +kernel⟩

theorem test_meets_FrameReceived :
    linked.pins.porn = false ∧ linked.tp.link = .up ∧ linked.tp.loss = none ∧
    ({ linked with tp.loss := some 1 }).tp.loss.isSome = true ∧ RxFrame.ofWords? [0] = none ∧
    RxFrame.ofWords? (request .flush 0 []).words = some (request .flush 0 []) ∧ State.reset.tp.link = .down := by
  decide +kernel

/-- A reset waits and the transmit queue is as given. -/
def resetWaits (tx : List TxFrame) : State := { linked with tp.tx := tx, cb.resetWaiting := true }

theorem test_meets_FrameSent :
    (resetWaits [.attention 1 2 3]).tp.tx = [.attention 1 2 3] ∧ (resetWaits []).cb.resetWaiting = true ∧
    (resetWaits []).tp.link = .up ∧ (resetWaits []).pins.porn = false ∧ (resetWaits []).tp.tx = [] ∧
    linked.cb.resetWaiting = false ∧
    ({ linked with tp.tx := [.attention 1 2 3] }).tp.tx = .attention 1 2 3 :: [] := by decide +kernel

theorem test_meets_ManagementResetTakesEffect :
    (resetWaits [.attention 1 2 3]).tp.tx = [.attention 1 2 3] ∧ (resetWaits []).tp.tx = [] ∧
    (resetWaits []).pins.porn = false ∧ (resetWaits []).cb.resetWaiting = true ∧ (resetWaits []).tp.link = .up ∧
    2 ≤ (resetWaits [.attention 1 2 3, .attention 1 2 3]).tp.tx.length := by decide +kernel

/-- An unknown kind, a wrong length field, and each kind's lengths at their bounds. -/
theorem test_meets_MalformedFrame :
    Takes (withFrame linked ⟨0x05030000, []⟩) .malformedFrame ⟨0x05030000, []⟩ [] ∧
    Takes (withFrame linked ⟨0x03030001, []⟩) .malformedFrame ⟨0x03030001, []⟩ [] ∧
    (request .read 16 []).row = .malformedFrame ∧ (request .read 16 [0]).row = .read ∧
    (request .write 17 (List.replicate 17 0)).row = .write ∧
    (request .write 17 (List.replicate 18 0)).row = .malformedFrame ∧
    (request .cancel 0 [0]).row = .malformedFrame ∧ (request .release 0 [0]).row = .malformedFrame ∧
    (request .command 0 [0, 0, 0]).row = .malformedFrame :=
  ⟨takes_of (by decide +kernel), takes_of (by decide +kernel), by decide +kernel⟩

theorem test_meets_WindowMatch :
    window.enabled = true ∧ window.valid = true ∧ window.offset? 16 = some 0 ∧ window.offset? 31 = some 15 ∧
    window.offset? 15 = none ∧ (0x35 : Word).toNat % 2 ^ window.p.toNat = (0x15 : Word).toNat % 2 ^ window.p.toNat := by
  decide +kernel

theorem test_meets_LowestWindowDecodes :
    (∀ w, (linked.wb.record linked.wb.active w).offset? 16 = none) ∧
    (mapped window).wb.decode false 0x1F 1 = .hit .a 0 15 { first := ⟨0x02000F, 1⟩, second := none } ∧
    (mapped { window with access := .writeOnly }).wb.decode false 16 1 = .access 0 ∧
    (mapped { window with boundary := .refuse }).wb.decode false 0x1F 2 = .boundary 0 ∧
    ((mapped window).wb.record .a 0).offset? 16 = some 0 := by decide +kernel

theorem test_meets_PartsFormed :
    0 + 16 ≤ window.size ∧ window.size < 1 + 16 ∧ window.boundary = .wrap ∧
    { window with boundary := .refuse }.boundary = .refuse ∧ window.enabled = true ∧ window.valid = true ∧
    15 < window.size ∧ window.parts? 15 16 = some { first := ⟨0x02000F, 1⟩, second := some ⟨0x020000, 15⟩ } := by
  decide +kernel

/-- Each condition of R18 at the edge of its range. -/
theorem test_meets_RecordValidity :
    { window with enabled := false, k := 0 }.firstFailure? = none ∧ window.firstFailure? = none ∧
    { window with k := 3 }.firstFailure? = some 1 ∧ { window with p := 33 }.firstFailure? = some 2 ∧
    { window with base := 32 }.firstFailure? = some 3 ∧ { window with base := 8 }.firstFailure? = some 3 ∧
    { window with access := .undefined }.firstFailure? = some 4 ∧ { window with writeSet := 0 }.firstFailure? = some 5 ∧
    { window with readLength := 5 }.firstFailure? = some 6 ∧
    { window with readMode := .vote, readLength := 4 }.firstFailure? = some 6 ∧
    { window with readList := #v[1, 1, 2, 3] }.firstFailure? = some 6 ∧
    { window with retryLimit := 4 }.firstFailure? = some 7 := by decide +kernel

theorem test_meets_LeggedSegments :
    window.policy = .strict ∧ window.readMode = .preferred ∧ window.members[0]? = some 0 ∧
    ((mapped window).seg 0).state = .active ∧ ((mapped window).seg 1).state = .rejoining ∧
    (linked.seg 0).state = .offline ∧ { window with readMode := .vote }.readMode = .vote := by decide +kernel

theorem test_meets_RequestRefused :
    (∃ c row w, DataCommand c row w) ∧
    Takes (withFrame reading (request .read 2 [0x14])) .read (request .read 2 [0x14]) [] ∧
    reading.entry 3 ≠ .free ∧ linked.entry 3 = .free ∧
    Takes (withFrame linked (request .read 17 [0x14])) .read (request .read 17 [0x14]) [] ∧
    Takes (withFrame linked (request .write 0 [0x14])) .write (request .write 0 [0x14]) [] ∧
    linked.wb.decode false 0x14 2 = .noWindow ∧
    (mapped { window with access := .readOnly }).wb.decode true 0x14 1 = .access 0 ∧
    (mapped { window with boundary := .refuse }).wb.decode true 0x1F 2 = .boundary 0 ∧
    linked.leggedForWrite window [1] = none ∧
    (mapped window).leggedForWrite window [1] = some (.write [1] 0, [0, 1]) ∧
    ((mapped window).setSeg 0 { SegCtl.reset with
      state := .active, queue := List.replicate 16 ⟨9, 0⟩ }).freeSlots 0 < onePart.count :=
  ⟨⟨_, _, _, .read⟩, takes_of (by decide +kernel), by decide +kernel, by decide +kernel, takes_of (by decide +kernel),
    takes_of (by decide +kernel), by decide +kernel⟩

theorem test_meets_RequestAccepted :
    DataCommand .write .write true ∧
    Takes (withFrame (mapped window) (request .write 1 [0x14, 7])) .write (request .write 1 [0x14, 7]) [] ∧
    (mapped window).entry 3 = .free ∧ (request .write 1 [0x14, 7]).count = 1 ∧
    (request .write 1 [0x14, 7]).data.length = 1 ∧
    (mapped window).wb.decode true 0x14 1 = .hit .a 0 4 { first := ⟨0x020004, 1⟩, second := none } ∧
    (mapped window).leggedForWrite ((mapped window).wb.record .a 0) [7] = some (.write [7] 0, [0, 1]) ∧
    ∀ g ∈ [(0 : SegId), 1], 1 ≤ (mapped window).freeSlots g ∧ (mapped window).segmentHeld g = false :=
  ⟨.write, takes_of (by decide +kernel), by decide +kernel⟩

theorem test_meets_Flush :
    Takes (withFrame reading (request .flush 0 [])) .flush (request .flush 0 []) [] ∧ reading.entry 3 ≠ .free ∧
    reading.entry 7 = .free ∧ (∀ t, linked.entry t = .free) ∧
    Takes (withFrame reading (.ofRequest .flush 7 0 [])) .flush (.ofRequest .flush 7 0 []) [] ∧
    Takes (withFrame linked (request .flush 0 [])) .flush (request .flush 0 []) [] :=
  ⟨takes_of (by decide +kernel), by decide +kernel, by decide +kernel, by decide +kernel, takes_of (by decide +kernel),
    takes_of (by decide +kernel)⟩

theorem test_meets_Cancel (e : Entry) :
    Takes (withFrame (holding e) (request .cancel 0 [])) .cancel (request .cancel 0 []) [] ∧ (holding e).entry 3 = e :=
  ⟨takes_of ⟨rfl, rfl, Nat.zero_lt_succ 63, by decide +kernel⟩, rfl⟩

theorem test_meets_CancelAnswers :
    (readEntry .cancelling []).phase = .cancelling ∧ (readEntry .abandoned []).phase = .abandoned ∧
    (holding (.flushing [1] 2)).entry 3 = .flushing [1] 2 ∧ (holding .free).entry 3 = .free := by decide +kernel

theorem test_meets_CancelPending :
    Takes (withFrame reading (request .cancel 0 [])) .cancel (request .cancel 0 []) [] ∧ reading.LegsPlaced ∧
    reading.entry 3 = .data (readEntry .pending [leg 0 .sent]) :=
  ⟨takes_of (by decide +kernel), test_meets_LegsPlaced, by decide +kernel⟩

theorem test_meets_EntryFreed :
    reading.entry 3 = .data (readEntry .pending [leg 0 .sent]) ∧ (holding (.flushing [] 31)).entry 3 = .flushing [] 31 ∧
    (holding (.flushing [] 31)).cb.resetWaiting = false ∧ (resetWaits []).cb.resetWaiting = true ∧
    (∀ u : Tag, u < 3 → (holding (.flushing [] 31)).entry u = .free) := by decide +kernel

/-! ## Results and failover -/

def done (seg : SegId) (words : List Word) : Leg := leg seg (.done (some words))

/-- A WRITE done on segment 0 and failed on segment 1. -/
def written : DataEntry :=
  { readEntry .pending [leg 0 (.done none), leg 1 (.failed .timeout)] with request := .write [1, 2] 0 }

theorem test_meets_WriteSettles :
    (holding (.data written)).entry 3 = .data written ∧ written.phase = .pending ∧
    (holding (.data written)).cb.resetWaiting = false ∧ (∀ l ∈ written.legs, l.state ≠ .queued ∧ l.state ≠ .sent) ∧
    [(0 : SegId), 1] ≠ [] ∧ [(0 : SegId), 1].Nodup ∧
    (written.legs.map fun l => (l.seg, l.part))
      = ([(0 : SegId), 1].flatMap fun g => written.parts.numbers.map fun p => (g, p)) := by decide +kernel

theorem test_meets_PreferredSettles :
    (readEntry .pending [done 0 [8, 9]]).request = .preferred 0 none ∧
    (∀ l ∈ (readEntry .pending [done 0 [8, 9]]).legs, l.state ≠ .queued ∧ l.state ≠ .sent) ∧
    ((mapped window).windowOf (readEntry .pending [])).readList[(0 : Fin 4)] = 0 := by decide +kernel

def voted (legs : List Leg) : DataEntry := { readEntry .pending legs with request := .vote false }

/-- Two of three agree; all differ; a lone success. -/
theorem test_meets_VoteSettles :
    (∀ l ∈ (voted [done 0 [8, 9], done 1 [8, 9], done 2 [1, 9]]).legs,
      l.state ≠ .queued ∧ l.state ≠ .sent ∧ l.seg ∈ [(0 : SegId), 1, 2]) ∧
    (voted []).request = .vote false ∧ (voted []).phase = .pending ∧
    (after (.next ((holding (.data (voted [done 0 [8, 9], done 1 [8, 9], done 2 [1, 9]]))).examine 3))).tp.tx
      = [.response {
          kind := 1, tag := 3, status := .ok, applied := 7, skipped := 0, dissent := true,
          detail := 0x00050000, data := [8, 9] }] := by decide +kernel

theorem test_meets_OutcomeTaken (phase : Phase) :
    (holding (.data (readEntry phase [leg 0 .sent]))).leg? ⟨3, 0⟩
      = some (readEntry phase [leg 0 .sent], leg 0 .sent) ∧
    (holding (.data (readEntry phase [leg 0 .sent]))).entry 3 = .data (readEntry phase [leg 0 .sent]) := by
  exact ⟨rfl, rfl⟩

/-- Tag 3 is a READ with a FAILED leg and two SENT legs on segment 0, and the first SENT one is DONE with data. -/
def siblingDone (d : DataEntry) : Entry :=
  ((holding (.data { d with legs := [leg 0 (.failed .timeout), leg 0 .sent, leg 0 .sent] })).legOutcome ⟨3, 1⟩
    (.done (some [8, 9]))).entry 3

/-- A leg that failed while CANCELLING made no failover: its sibling keeps its data (R45, R46). -/
theorem test_cancelledReadKeepsSiblingData :
    siblingDone (readEntry .cancelling [])
      = .data (readEntry .cancelling [leg 0 (.failed .timeout), leg 0 (.done (some [8, 9])), leg 0 .sent]) := by
  decide +kernel

/-- With no segment left the sibling is superseded, and its data is dropped (R82, R83). -/
theorem test_readWithNoSegmentLeftDropsSiblingData :
    siblingDone { readEntry .pending [] with noneLeft := true }
      = .data { readEntry .pending [leg 0 (.failed .timeout), leg 0 (.done none), leg 0 .sent] with
          noneLeft := true } := by
  decide +kernel

/-- Segment 1, the next member, is ACTIVE. -/
def successor : State := reading.setSeg 1 { SegCtl.reset with state := .active }

theorem test_meets_FailoverChoosesNext :
    successor.entry 3 = .data (readEntry .pending [leg 0 .sent]) ∧ window.members[(1 : Fin 4).val]? = some 1 ∧
    (0 : Fin 4) < 1 ∧ (successor.seg 1).state = .active ∧ onePart.count ≤ successor.freeSlots 1 ∧
    (∀ u, successor.waitsOn 1 u = false) ∧ (reading.seg 1).state ≠ .active ∧ window.members[2]? = none ∧
    ¬ onePart.count ≤ (successor.setSeg 1 { SegCtl.reset with
      state := .active, queue := List.replicate 16 ⟨9, 0⟩ }).freeSlots 1 := by decide +kernel

/-- Tag 3 waits on segment 0. -/
def waiting (queue : List LegRef) : State :=
  (holding (.data { readEntry .pending [] with request := .preferred 0 (some 0) })).setSeg 0
    { SegCtl.reset with state := .active, queue := queue }

theorem test_meets_WaitersServed :
    (waiting []).pins.porn = false ∧ ((waiting []).seg 0).state = .active ∧ (waiting []).waitsOn 0 3 = true ∧
    ((waiting []).seg 0).risen = false ∧ (((waiting []).rise 0).seg 0).risen = true ∧
    (∀ u : Tag, u < 3 → (waiting []).entry u = .free) ∧ onePart.count ≤ (waiting (List.replicate 15 ⟨9, 0⟩)).freeSlots 0 ∧
    (waiting (List.replicate 16 ⟨9, 0⟩)).freeSlots 0 < onePart.count := by decide +kernel

/-! ## Segments -/

/-- A QUEUED leg at the head of segment 0's queue, with a sent list. -/
def queued (sent : List SentLeg) : State :=
  (holding (.data (readEntry .pending [leg 0 .queued]))).setSeg 0
    { SegCtl.reset with state := .active, queue := [⟨3, 0⟩], sent := sent }

theorem test_meets_LegSent :
    (queued []).pins.porn = false ∧ ((queued []).seg 0).queue = [⟨3, 0⟩] ∧
    (queued []).leg? ⟨3, 0⟩ = some (readEntry .pending [leg 0 .queued], leg 0 .queued) ∧
    ((queued [⟨⟨3, 1⟩, 9, 1⟩]).seg 0).maySend = true ∧
    ((queued [⟨⟨3, 1⟩, 9, 1⟩, ⟨⟨3, 2⟩, 8, 1⟩]).seg 0).maySend = false ∧ ((queued [⟨⟨3, 1⟩, 0, 1⟩]).seg 0).maySend = false ∧
    ((mapped window).seg 0).queue = [] := by decide +kernel

/-- The leg answered, for LEG_DONE and LEG_REFUSED. -/
theorem test_meets_LegDone_LegRefused :
    reading.pins.porn = false ∧ (reading.seg 0).state = .active ∧
    (reading.seg 0).sentUnder? 5 = some { ref := ⟨3, 0⟩, tag := 5, timer := 7 } ∧
    reading.leg? ⟨3, 0⟩ = some (readEntry .pending [leg 0 .sent], leg 0 .sent) ∧
    (onePart.get (leg 0 .sent).part).length = 2 := by decide +kernel

theorem test_meets_StrayAndCorruptFrames :
    (linked.seg 0).state = .offline ∧ (∀ x ∈ (reading.seg 0).sent, x.tag ≠ 4) ∧
    UpFrame.ofWords? [1, 2, 3] = none ∧
    UpFrame.ofWords? (UpFrame.words (.legDone 5 [8, 9])) = some (.legDone 5 [8, 9]) := by decide +kernel

theorem test_meets_LegTimerExpiry :
    reading.pins.refclk = true ∧ (reading.seg 0).sentUnder? 5 = some { ref := ⟨3, 0⟩, tag := 5, timer := 7 } ∧
    ¬ (reading.seg 0).faultThreshold ≤ (reading.seg 0).failures + 1 ∧
    (reading.setSeg 0 { reading.seg 0 with failures := 3 }).seg 0
      = { reading.seg 0 with failures := 3 } ∧ (reading.seg 0).faultThreshold ≤ 3 + 1 ∧
    (readEntry .pending [leg 0 .sent]).supersededOn window 0 = false ∧
    (leg 0 .sent).timeouts + 1 ≤ (reading.windowOf (readEntry .pending [])).retryLimit.toNat ∧
    ¬ ({ leg 0 .sent with timeouts := 1 } : Leg).timeouts + 1 ≤ window.retryLimit.toNat ∧
    (∀ x ∈ (reading.seg 0).sent, x.tag ≠ 4) := by decide +kernel

theorem test_meets_RewindRequeues :
    (∀ d, linked.entry 3 ≠ .data d) ∧ reading.entry 3 = .data (readEntry .pending [leg 0 .sent]) ∧
    reading.resendable ⟨3, 0⟩ = true ∧ reading.resendable ⟨4, 0⟩ = false :=
  ⟨fun d h => (by rw [show linked.entry 3 = .free by decide +kernel] at h; cases h), by decide +kernel⟩

theorem test_meets_OutOfService :
    (SegState.resetting 2000 = .offline ∨ SegState.resetting 2000 = .faulted ∨ ∃ n, SegState.resetting 2000 = .resetting n) ∧
    (reading.seg 0).state = .active :=
  ⟨.inr (.inr ⟨2000, rfl⟩), by decide +kernel⟩

theorem test_meets_ProbingAndLineReset :
    ((segIn 2 (.probing 4 9 false)).seg 2).state = .probing 4 9 false ∧ (segIn 2 (.probing 4 9 false)).pins.porn = false ∧
    (segIn 2 (.probing 4 9 false)).pins.refclk = true ∧ ((segIn 2 (.probing 4 9 false)).seg 2).failures + 1 < 4 ∧
    (linked.setSeg 2 { SegCtl.reset with state := .probing 4 9 false, failures := 3 }).seg 2
      = { SegCtl.reset with state := .probing 4 9 false, failures := 3 } ∧
    ((segIn 2 (.resetting 2000)).seg 2).state = .resetting 2000 ∧ (linked.seg 2).state = .offline := by decide +kernel

theorem test_meets_SegmentFaults :
    (reading.seg 0).state = .active ∧ (reading.seg 1).state = .rejoining ∧
    ((segIn 2 (.probing 4 9 false)).seg 2).state = .probing 4 9 false := by decide +kernel

/-- Each segment command is taken with the segment it names in any state. -/
theorem test_meets_SegmentCommands (st : SegState) :
    Takes (withFrame (segIn 2 st) (command 0x10 2)) .segmentStart (command 0x10 2) [] ∧
    Takes (withFrame (segIn 2 st) (command 0x11 2)) .segmentStop (command 0x11 2) [] ∧
    Takes (withFrame (segIn 2 st) (command 0x12 2)) .segmentSynced (command 0x12 2) [] ∧
    Takes (withFrame (segIn 2 st) (command 0x13 2)) .segmentReset (command 0x13 2) [] ∧
    ((segIn 2 st).seg 2).state = st ∧ (command 0x10 2).operandSegment = 2 ∧ (segIn 2 st).entry 3 = .free :=
  ⟨takes_of ⟨rfl, rfl, Nat.zero_lt_succ 63, by decide +kernel⟩, takes_of ⟨rfl, rfl, Nat.zero_lt_succ 63, by decide +kernel⟩,
    takes_of ⟨rfl, rfl, Nat.zero_lt_succ 63, by decide +kernel⟩, takes_of ⟨rfl, rfl, Nat.zero_lt_succ 63, by decide +kernel⟩, rfl,
    by decide +kernel, rfl⟩

/-- An attention queue that is empty, holds the id, has room, and is full. -/
theorem test_meets_AttentionReportTaken :
    (reading.seg 0).state = .active ∧ (reading.seg 0).attention = [] ∧ (0x42 : Byte) ∈ [(0x42 : Byte)] ∧
    (0x45 : Byte) ∉ [(0x42 : Byte), 0x43, 0x44] ∧ [(0x42 : Byte), 0x43, 0x44].length < 4 ∧
    4 ≤ [(0x41 : Byte), 0x42, 0x43, 0x44].length ∧ (0x45 : Byte) ∉ [(0x41 : Byte), 0x42, 0x43, 0x44] := by
  decide +kernel

/-! ## Control requests -/

theorem test_meets_ControlTagAndCode :
    ControlCommand .commit .commit ∧ Takes (withFrame reading (command 0x01 0)) .commit (command 0x01 0) [] ∧
    reading.entry (command 0x01 0).tag ≠ .free ∧
    Takes (withFrame linked (command 0x03 0)) .unknownCommandCode (command 0x03 0) [] ∧
    linked.entry (command 0x03 0).tag = .free :=
  ⟨.commit, takes_of (by decide +kernel), by decide +kernel, takes_of (by decide +kernel), by decide +kernel⟩

def cwrite (count : Nat) (payload : List Word) : RxFrame := request .cwrite count payload

/-- Each row of CWRITE is taken on a free tag. -/
theorem test_meets_CwriteRows :
    Takes (withFrame linked (cwrite 16 (0x70 :: List.replicate 16 0))) .shadowWindowWrite
      (cwrite 16 (0x70 :: List.replicate 16 0)) [] ∧
    Takes (withFrame linked (cwrite 3 [0x360, 4, 65535, 15])) .segmentConfigWrite (cwrite 3 [0x360, 4, 65535, 15]) [] ∧
    Takes (withFrame linked (cwrite 1 [0x400, 0])) .maskSetWrite (cwrite 1 [0x400, 0]) [] ∧
    Takes (withFrame linked (cwrite 1 [0x404, 255])) .resendIntervalWrite (cwrite 1 [0x404, 255]) [] ∧
    Takes (withFrame linked (cwrite 0 [0x404])) .cwrite (cwrite 0 [0x404]) [] ∧
    linked.entry (cwrite 0 [0x404]).tag = .free :=
  ⟨takes_of (by decide +kernel), takes_of (by decide +kernel), takes_of (by decide +kernel),
    takes_of (by decide +kernel), takes_of (by decide +kernel), by decide +kernel⟩

/-- Every test of R185 fails somewhere, at the lowest address of its span: an unmapped word, a read-only word, a
draining shadow, a segment in service, a value outside its range; and none fails. -/
theorem test_meets_CwriteAnswers :
    linked.cwriteRefusal? (cwrite 2 [0x404, 1, 2]) = some (.noObject, 0x405) ∧
    linked.cwriteRefusal? (cwrite 2 [0x7F, 1, 2]) = some (.access, 0x80) ∧
    ({ linked with wb.inflightB := 1 }).cwriteRefusal? (cwrite 1 [0x7F, 1]) = some (.bankBusy, 0x7F) ∧
    (mapped window).cwriteRefusal? (cwrite 1 [0x302, 1]) = some (.refused, 0x302) ∧
    linked.cwriteRefusal? (cwrite 3 [0x300, 4, 9, 16]) = some (.refused, 0x301) ∧
    linked.cwriteRefusal? (cwrite 1 [0x404, 256]) = some (.refused, 0x404) ∧
    linked.cwriteRefusal? (cwrite 3 [0x300, 1, 10, 1]) = none := by decide +kernel

theorem test_meets_CwriteWrites :
    (cwrite 3 [0x300, 4, 10, 15]).data.length = (cwrite 3 [0x300, 4, 10, 15]).count ∧
    (∀ a ∈ (cwrite 3 [0x300, 4, 10, 15]).span, (controlObject? a).any ControlObject.writable = true) ∧
    (cwrite 3 [0x300, 4, 10, 15]).data[2]? = some 15 ∧ controlObject? (0x300 + 2) = some (.faultThreshold 0) := by
  decide +kernel

/-- A CREAD through the last counter and the unmapped word behind it, and one of sixteen words. -/
theorem test_meets_CreadAnswers :
    Takes (withFrame linked (request .cread 2 [0x630])) .counterReadAndClear (request .cread 2 [0x630]) [] ∧
    controlObject? 0x630 = some (.counterClear 48) ∧ controlObject? 0x631 = none ∧
    (request .cread 2 [0x630]).span = [0x630, 0x631] ∧
    (∀ a ∈ (request .cread 16 [0x600]).span, (controlObject? a).isSome = true) ∧
    (request .cread 17 [0x600]).creadWellFormed = false ∧ linked.entry (request .cread 2 [0x630]).tag = .free :=
  ⟨takes_of (by decide +kernel), by decide +kernel⟩

/-- The shadow drains; a record is invalid; every record is valid with the active bank in use and not. -/
theorem test_meets_Commit :
    Takes (withFrame linked (command 0x01 0)) .commit (command 0x01 0) [] ∧
    0 < ({ linked with wb.inflightB := 1 }).wb.inflight Bank.a.other ∧ linked.wb.inflight Bank.a.other = 0 ∧
    ({ window with retryLimit := 4 }).firstFailure? = some 7 ∧
    (∀ w, (linked.wb.record .b w).valid = true) ∧ 0 < reading.wb.inflight reading.wb.active ∧
    linked.wb.inflight linked.wb.active = 0 ∧ linked.entry (command 0x01 0).tag = .free :=
  ⟨takes_of (by decide +kernel), by decide +kernel⟩

theorem test_meets_CopyActive :
    Takes (withFrame linked (command 0x02 0)) .copyActive (command 0x02 0) [] ∧
    0 < ({ linked with wb.inflightB := 1 }).wb.inflight linked.wb.active.other ∧
    linked.wb.inflight linked.wb.active.other = 0 :=
  ⟨takes_of (by decide +kernel), by decide +kernel⟩

theorem test_meets_ManagementReset :
    Takes (withFrame linked (command 0x20 0)) .managementReset (command 0x20 0) [] ∧
    linked.entry (command 0x20 0).tag = .free ∧ (resetWaits []).cb.resetWaiting = true :=
  ⟨takes_of (by decide +kernel), by decide +kernel⟩

def releaseOf (l q : Word) : RxFrame := request .release 0 [l, q]

/-- Level 8; a level not in service; a wrong and a right sequence; a level of the part and a segment's. -/
theorem test_meets_Release :
    Takes (withFrame linked (releaseOf 8 0)) .release (releaseOf 8 0) [] ∧ 8 ≤ (releaseOf 8 0).word1.toNat ∧
    Takes (withFrame linked (releaseOf 7 0)) .release (releaseOf 7 0) [] ∧ (releaseOf 7 0).word1.toNat = (7 : LevelId).val ∧
    (linked.level 7).service = none ∧
    Takes (withFrame (levelIs 6 none (some ⟨9, 1, .off⟩)) (releaseOf 6 0x109)) .release (releaseOf 6 0x109) [] ∧
    Takes (withFrame (levelIs 2 none (some ⟨9, 1, .off⟩)) (releaseOf 2 9)) .release (releaseOf 2 9) [] ∧
    (releaseOf 6 0x109).word2.toNat % 256 = 9 ∧ linked.entry (releaseOf 6 0x109).tag = .free ∧
    ((levelIs 6 none (some ⟨9, 1, .off⟩)).level 6).service = some ⟨9, 1, .off⟩ ∧ deviceLevel 3 = 5 ∧
    deviceLevel 0 = 2 ∧ (reading.seg 0).state = .active ∧ (reading.seg 0).attention = [] ∧
    ((reading.setSeg 0 { reading.seg 0 with attention := [1, 2] }).seg 0).attention = [1, 2] :=
  ⟨takes_of (by decide +kernel), by decide +kernel, takes_of (by decide +kernel), by decide +kernel, by decide +kernel,
    takes_of (by decide +kernel), takes_of (by decide +kernel), by decide +kernel⟩

/-! ## Attention and counters -/

/-- Nothing may be placed; a resend waits; a level is deliverable; neither. -/
theorem test_meets_EndOfStep :
    linked.pins.porn = false ∧ linked.tp.link = .up ∧ linked.cb.resetWaiting = false ∧ 0 < linked.freePlaces ∧
    ({ linked with tp.held := 64 }).freePlaces = 0 ∧
    ((levelIs 6 none (some ⟨9, 1, .waiting⟩)).level 6).service = some ⟨9, 1, .waiting⟩ ∧
    (∀ m : LevelId, m ≠ 6 → ((levelIs 6 (some 1) none).level m).latch = none) ∧
    (levelIs 6 (some 1) none).deliveryChoice = some 6 ∧ linked.deliveryChoice = none := by decide +kernel

theorem test_meets_ResendDeadlineExpiry :
    ((levelIs 6 none (some ⟨9, 1, .running 1⟩)).level 6).service = some ⟨9, 1, .running 1⟩ ∧
    linked.pins.refclk = true ∧ (resetWaits []).cb.resetWaiting = true ∧ 0 < linked.freePlaces ∧
    State.reset.tp.link = .down ∧ (linked.level 6).service = none := by decide +kernel

/-- A counter at its last three values. -/
theorem test_meets_CountSaturates :
    ({ linked with cb.counters := linked.cb.counters.set 0 0xFFFFFFFF }).counter 0 = 0xFFFFFFFF ∧
    ({ linked with cb.counters := linked.cb.counters.set 0 0xFFFFFFFE }).counter 0 = 0xFFFFFFFE ∧
    linked.counter 0 ≠ 0xFFFFFFFF ∧ linked.counter 0 ≠ 0xFFFFFFFE := by decide +kernel

theorem test_meets_FormatsRoundTrip :
    31 < 32 ∧ (List.replicate 31 (0 : Word)).length < 32 ∧ (List.replicate 16 (0 : Word)).length ≤ 16 ∧
    RequestKind.lengthAllowed 17 .write = true := by decide +kernel

/-! ## Invariants, in a state with work in flight, at a step that ends the work -/

theorem test_meets_StepKeepsTables :
    reading.SaturationExact ∧ reading.ActiveValid ∧ reading.ConfigInRange ∧ ∃ t, step reading = .next t :=
  ⟨by unfold State.SaturationExact; decide +kernel, by unfold State.ActiveValid; decide +kernel,
    by unfold State.ConfigInRange; decide +kernel, _, rfl⟩

theorem test_meets_StepKeepsEntries :
    reading.PlacesKept ∧ reading.InflightExact ∧ reading.BarriersOpen := by
  refine ⟨by unfold State.PlacesKept; decide +kernel, by intro which; cases which <;> decide +kernel, ?_⟩
  intro t barrier n h
  have none : ∀ t : Tag, (match reading.entry t with
    | .flushing _ _ => false
    | _ => true) = true := by decide +kernel
  have := none t
  rw [h] at this
  cases this

theorem test_meets_StepKeepsSegments (g : SegId) :
    State.SlotsKept (reading.seg g) ∧ State.ReportsServed (reading.seg g) (reading.level (deviceLevel g)) := by
  have slots : ∀ g, (reading.seg g).queue.length + (reading.seg g).sent.length ≤ Config.slots := by decide +kernel
  have window : ∀ g, (reading.seg g).sent.length ≤ (reading.seg g).sendWindow := by decide +kernel
  have tags : ∀ g, ((reading.seg g).sent.map SentLeg.tag).Nodup := by decide +kernel
  have idle : ∀ g, (reading.seg g).state.carries = false → (reading.seg g).queue = [] ∧ (reading.seg g).sent = [] := by
    decide +kernel
  have none : ∀ g, (reading.seg g).attention = [] := by decide +kernel
  exact ⟨⟨slots g, window g, tags g, idle g⟩, ⟨by simp [none g], by simp [none g], by simp [none g], fun _ => none g⟩⟩

theorem test_meets_StepKeepsLegs :
    reading.LegsPlaced ∧ reading.Withdrawn ∧ (∀ g, State.SlotsKept (reading.seg g)) ∧ ∃ t, step reading = .next t :=
  ⟨test_meets_LegsPlaced, test_meets_Withdrawn, fun g => (test_meets_StepKeepsSegments g).1, _, rfl⟩

end Sys2Proof.Tests
end

section

/-! The address match of a window record (R7), and what validity (R18) gives it. -/

namespace Sys2Proof.Machine.WindowRecord

/-- R7 in the model's own arithmetic: the reduced address is not below the base, and the difference is the offset. -/
theorem offset?_eq_some_iff {w : WindowRecord} {a : Word} {o : Nat} :
    w.offset? a = some o ↔
      w.enabled = true ∧ a.toNat % w.period = w.base.toNat + o ∧ o < w.size := by
  unfold offset?
  dsimp only
  split
  case isTrue matched =>
    simp only [Bool.and_eq_true, decide_eq_true_eq] at matched
    obtain ⟨⟨enabled, above⟩, inside⟩ := matched
    constructor
    · rintro ⟨⟩
      exact ⟨enabled, by omega, inside⟩
    · rintro ⟨-, position, -⟩
      simp [position]
  case isFalse unmatched =>
    constructor
    · nofun
    · rintro ⟨enabled, position, inside⟩
      exact absurd (by simp [enabled, position, inside]) unmatched

theorem offset?_congr {w : WindowRecord} {a b : Word} (same : a.toNat % w.period = b.toNat % w.period) :
    w.offset? a = w.offset? b := by
  unfold offset?
  rw [same]

/-- Conditions 2 and 3 of R18: the base is an aligned position of the period, and the size divides the period. -/
theorem aligned_of_valid {w : WindowRecord} (enabled : w.enabled = true) (valid : w.valid = true) :
    w.size ∣ w.period ∧ w.base.toNat < w.period ∧ w.size ∣ w.base.toNat := by
  have holds : ∀ c ∈ w.conditions, c = true := ((valid_iff w).1 valid).resolve_left (by simp [enabled])
  have exponents := holds (w.k.toNat ≤ w.p.toNat && w.p.toNat ≤ 32) (by simp [conditions])
  have base := holds (decide (w.base.toNat < w.period) && w.base.toNat % w.size == 0) (by simp [conditions])
  simp only [Bool.and_eq_true, decide_eq_true_eq, beq_iff_eq] at exponents base
  exact ⟨Nat.pow_dvd_pow 2 exponents.1, base.1, Nat.dvd_of_mod_eq_zero base.2⟩

/-- A valid window ends within its period, so R7's comparison never wraps around it: the base and the period are both
multiples of the size, so a base below the period leaves room for one more size. -/
theorem base_add_size_le_period {w : WindowRecord} (enabled : w.enabled = true) (valid : w.valid = true) :
    w.base.toNat + w.size ≤ w.period := by
  obtain ⟨periodAligned, below, baseAligned⟩ := aligned_of_valid enabled valid
  exact Nat.le_of_lt_add_of_dvd (by omega) (Nat.dvd_add baseAligned (Nat.dvd_refl _)) periodAligned

end Sys2Proof.Machine.WindowRecord

namespace Sys2Proof.Machine

/-- Settles O15: the model's natural-number comparison is R7's signed one, and the last part is the room that R18's
alignment leaves in the period. -/
theorem windowMatch : Obligations.WindowMatch := by
  refine ⟨fun w a o => ?_, fun w a b => WindowRecord.offset?_congr, fun w => WindowRecord.base_add_size_le_period⟩
  have signed : a.toNat % w.period = w.base.toNat + o ↔
      ((a.toNat % w.period : Nat) : Int) - (w.base.toNat : Int) = (o : Int) := by omega
  rw [WindowRecord.offset?_eq_some_iff, signed]

end Sys2Proof.Machine
end

section

/-! COMMIT (R26 to R29): the shadow's drain, its validation, the swap of the roles. -/

namespace Sys2Proof.Machine.WindowBanks

theorem draining_iff (b : WindowBanks) : b.draining = true ↔ 0 < b.inflight b.active.other := decide_eq_true_iff

/-- R27: validation names the lowest-numbered invalid window with its first failing condition. -/
theorem firstInvalid_eq_some {b : WindowBanks} {which : Bank} {w : WindowId} {n : Nat}
    (fails : (b.record which w).firstFailure? = some n)
    (lowest : ∀ v, v < w → (b.record which v).valid = true) :
    b.firstInvalid which = some (w, n) := by
  refine findSome_lowest allTags_rising (List.mem_finRange w) (by simp [fails]) fun v _ below => ?_
  have passes : (b.record which v).firstFailure? = none := Option.isNone_iff_eq_none.1 (lowest v below)
  simp [passes]

theorem firstInvalid_eq_none {b : WindowBanks} {which : Bank}
    (valid : ∀ w, (b.record which w).valid = true) : b.firstInvalid which = none := by
  refine List.findSome?_eq_none_iff.2 fun w _ => ?_
  have passes : (b.record which w).firstFailure? = none := Option.isNone_iff_eq_none.1 (valid w)
  simp [passes]

end Sys2Proof.Machine.WindowBanks

namespace Sys2Proof.Machine

/-- The detail of BANK_INVALID: the window's number fits below bit 8, so the two fields add up. -/
theorem toWord_or_shiftLeft_eight {w : Nat} (fits : w < 256) (n : Nat) :
    toWord w ||| (toWord n <<< 8) = toWord (w + 256 * n) := by
  have fields : w + 256 * n = w ||| n <<< 8 := by
    rw [Nat.or_comm, ← Nat.shiftLeft_add_eq_or_of_lt (i := 8) fits, Nat.shiftLeft_eq]
    omega
  have shifted : toWord n <<< 8 = toWord (n <<< 8) := by
    apply BitVec.eq_of_toNat_eq
    simp [toWord, Nat.shiftLeft_eq]
  rw [shifted, fields]
  exact BitVec.ofNat_or.symm

namespace State

/-- R28 where the former active bank still has open entries: it drains, and no level is raised. -/
theorem swapBanks_of_inflight {s : State} (busy : 0 < s.wb.inflight s.wb.active) :
    s.swapBanks = { s with wb.active := s.wb.active.other, wb.generation := s.wb.generation + 1 } :=
  if_neg (by omega)

/-- R29: a former active bank without an open entry raises level 6 with its letter at once. -/
theorem swapBanks_of_idle {s : State} (idle : s.wb.inflight s.wb.active = 0) :
    s.swapBanks = State.raise
      { s with wb.active := s.wb.active.other, wb.generation := s.wb.generation + 1 } 6 s.wb.active.code :=
  if_pos idle

@[simp] theorem swapBanks_wb_generation (s : State) : s.swapBanks.wb.generation = s.wb.generation + 1 := by
  simp only [swapBanks]; split <;> rfl

section
variable {s : State} {f : RxFrame} (free : s.entry f.tag = .free)
include free

/-- R26: a draining shadow is not validated. -/
theorem takeCommit_draining (drains : 0 < s.wb.inflight s.wb.active.other) :
    s.takeCommit f = s.placeResponse (f.reply .bankBusy 0) := by
  rw [takeCommit, withFreeTag_free (tagInUse_false free), if_pos (s.wb.draining_iff.2 drains)]
  rfl

theorem takeCommit_invalid (drained : s.wb.inflight s.wb.active.other = 0) {w : WindowId} {n : Nat}
    (first : s.wb.firstInvalid s.wb.active.other = some (w, n)) :
    s.takeCommit f = s.placeResponse (f.reply .bankInvalid (toWord (w.val + 256 * n))) := by
  rw [takeCommit, withFreeTag_free (tagInUse_false free), if_neg (by simp [WindowBanks.draining_iff, drained]),
    WindowBanks.shadow, first, ← toWord_or_shiftLeft_eight (by omega)]
  rfl

theorem takeCommit_valid (drained : s.wb.inflight s.wb.active.other = 0)
    (valid : s.wb.firstInvalid s.wb.active.other = none) :
    s.takeCommit f = s.swapBanks.placeResponse (f.reply .ok ((s.wb.generation + 1).setWidth 32)) := by
  rw [takeCommit, withFreeTag_free (tagInUse_false free), if_neg (by simp [WindowBanks.draining_iff, drained]),
    WindowBanks.shadow, valid, ← swapBanks_wb_generation]
  rfl

end

end State

theorem exec_commit_of_takes {s : State} {f : RxFrame} {rest : List RxFrame} (h : Takes s .commit f rest) :
    exec .commit s = .next (((s.taken rest).takeCommit f).finish s) :=
  congrArg Host.Outcome.next (h.takeFrame State.takeCommit)

/-- The letter that level 6 carries, as R29 writes it. -/
theorem Bank.code_eq_ite (which : Bank) : which.code = if which = .a then 0 else 1 := by cases which <;> rfl

/-- Settles O48: the four outcomes of `takeCommit`, on the state in which the frame has left the receive buffer. -/
theorem commit : Obligations.Commit := by
  intro s f rest takes free k
  have tagFree : k.entry f.tag = .free := free
  rw [exec_commit_of_takes takes]
  refine ⟨fun drains => ?busy, fun drained => ⟨fun w n fails lowest => ?invalid, fun valid => ?swapped⟩⟩
  case busy => rw [State.takeCommit_draining tagFree drains]
  case invalid => rw [State.takeCommit_invalid tagFree drained (WindowBanks.firstInvalid_eq_some fails lowest)]
  case swapped =>
    rw [State.takeCommit_valid tagFree drained (WindowBanks.firstInvalid_eq_none valid)]
    refine ⟨fun inUse => ?formerInUse, fun idle => ?formerIdle⟩
    case formerInUse =>
      rw [State.swapBanks_of_inflight (s := k) inUse]
      rfl
    case formerIdle =>
      rw [State.swapBanks_of_idle (s := k) idle, Bank.code_eq_ite]
      rfl

end Sys2Proof.Machine
end

section

/-! The fields of a response that name segments: the sets and the four detail fields (R176). Each is a disjunction over
the four segments, read bit by bit. -/

namespace Sys2Proof.Machine

theorem mem_allSegs (g : SegId) : g ∈ allSegs := by
  revert g; decide

/-- A disjunction gathered along a list holds a bit just when the start or one of its terms does. -/
theorem getLsbD_foldl_or {α : Type} {w : Nat} (term : α → BitVec w) (as : List α) (start : BitVec w) (i : Nat) :
    (as.foldl (fun acc a => acc ||| term a) start).getLsbD i =
      (start.getLsbD i || as.any fun a => (term a).getLsbD i) := by
  induction as generalizing start with
  | nil => simp
  | cons a as ih => rw [List.foldl_cons, ih, BitVec.getLsbD_or, List.any_cons, Bool.or_assoc]

theorem segsWhere_eq_foldl_or (f : SegId → Bool) :
    segsWhere f = allSegs.foldl (fun acc g => acc ||| if f g then 1#4 <<< g.val else 0#4) 0#4 := by
  unfold segsWhere
  congr 1
  funext acc g
  cases f g <;> simp

/-- A set of segments holds exactly the segments its test holds for. -/
@[simp] theorem hasSeg_segsWhere (f : SegId → Bool) (g : SegId) : hasSeg (segsWhere f) g = f g := by
  have bit : ∀ h : SegId, (if f h then 1#4 <<< h.val else 0#4).getLsbD g.val = (f h && decide (h = g)) := by
    intro h
    cases f h
    · simp
    · revert h g; decide
  rw [hasSeg, segsWhere_eq_foldl_or, getLsbD_foldl_or, Bool.eq_iff_iff]
  simp only [bit]
  simp [mem_allSegs]

/-- Bits 8s to 8s + 7 of a detail word come from segment s alone, when every field fits in 8 bits. -/
theorem getLsbD_segmentDetail {f : SegId → Nat} (fits : ∀ g, f g < 2 ^ 8) (g : SegId) {i : Nat} (inside : i < 8) :
    (segmentDetail f).getLsbD (8 * g.val + i) = (f g).testBit i := by
  have own : (toWord (f g) <<< (8 * g.val)).getLsbD (8 * g.val + i) = (f g).testBit i := by
    simp only [toWord, BitVec.getLsbD_shiftLeft, BitVec.getLsbD_ofNat, Nat.add_sub_cancel_left]
    simp [show 8 * g.val + i < 32 by omega, show i < 32 by omega]
  have foreign : ∀ h, h ≠ g → (toWord (f h) <<< (8 * h.val)).getLsbD (8 * g.val + i) = false := by
    intro h other
    rcases Nat.lt_or_gt_of_ne (Fin.val_ne_of_ne other) with below | above
    · have high : (f h).testBit (8 * g.val + i - 8 * h.val) = false :=
        Nat.testBit_lt_two_pow (Nat.lt_of_lt_of_le (fits h) (Nat.pow_le_pow_right Nat.two_pos (by omega)))
      simp [toWord, BitVec.getLsbD_ofNat, high]
    · simp [show 8 * g.val + i < 8 * h.val by omega]
  rw [segmentDetail, getLsbD_foldl_or, BitVec.getLsbD_zero, Bool.false_or, Bool.eq_iff_iff, List.any_eq_true, ← own]
  constructor
  · rintro ⟨h, -, set⟩
    by_cases same : h = g
    · exact same ▸ set
    · rw [foreign h same] at set
      cases set
  · exact fun set => ⟨g, mem_allSegs g, set⟩

/-- A response whose detail word is made of four fields that fit shows each of them in its segment's place. -/
theorem detailField_of_segmentDetail {r : Response} {f : SegId → Nat} (detail : r.detail = segmentDetail f)
    (fits : ∀ g, f g < 2 ^ 8) (g : SegId) : r.detailField g = f g := by
  rw [Response.detailField, detail]
  refine Nat.eq_of_testBit_eq fun i => ?_
  rw [BitVec.testBit_toNat, BitVec.getLsbD_extractLsb']
  by_cases inside : i < 8
  · simp [inside, getLsbD_segmentDetail fits g inside]
  · have high : (f g).testBit i = false :=
      Nat.testBit_lt_two_pow (Nat.lt_of_lt_of_le (fits g) (Nat.pow_le_pow_right Nat.two_pos (by omega)))
    simp [inside, high]

end Sys2Proof.Machine
end

section

/-! What an entry's legs say of each segment: the model's computed tests against the words of R55, R68 and R71. -/

namespace Sys2Proof.Machine.DataEntry

theorem appliedOn_iff (d : DataEntry) (g : SegId) : d.appliedOn g = true ↔ d.AppliedTo g := by
  simp [appliedOn, AppliedTo, legsOn]

theorem hasSeg_applied (d : DataEntry) (g : SegId) : hasSeg d.applied g = true ↔ d.AppliedTo g := by
  rw [applied, hasSeg_segsWhere, appliedOn_iff]

/-- The first reason among a segment's own legs is the first along the whole leg list that stands on the segment. -/
theorem findSome?_legsOn (d : DataEntry) (g : SegId) :
    (d.legsOn g).findSome? (fun l => l.state.reason?) =
      d.legs.findSome? fun l => if l.seg = g then l.state.reason? else none := by
  simp [legsOn, ← List.head?_filterMap, List.filterMap_filter]

theorem failureCode_eq_firstReason (d : DataEntry) (g : SegId) : d.failureCode g = d.firstReason g := by
  rw [failureCode, firstReason, findSome?_legsOn]
  cases d.legs.findSome? fun l => if l.seg = g then l.state.reason? else none with
  | none => rfl
  | some reason => cases reason <;> rfl

theorem failureCode_lt (d : DataEntry) (g : SegId) : d.failureCode g < 2 ^ 8 := by
  unfold failureCode
  split
  case h_1 reason _ => cases reason <;> decide
  case h_2 => decide

theorem anyInFlight_eq_false {d : DataEntry} (settled : ∀ l ∈ d.legs, l.state ≠ .queued ∧ l.state ≠ .sent) :
    d.anyInFlight = false := by
  refine List.any_eq_false.2 fun l on => ?_
  obtain ⟨notQueued, notSent⟩ := settled l on
  cases state : l.state <;> simp_all [LegState.inFlight]

end Sys2Proof.Machine.DataEntry

namespace Sys2Proof.Machine.State

/-- R47: a PENDING entry with no leg QUEUED or SENT and no failover wait settles, unless a reset waits (R59). -/
theorem examine_eq_settle {s : State} {t : Tag} {d : DataEntry} (entry : s.entry t = .data d)
    (pending : d.phase = .pending) (settled : ∀ l ∈ d.legs, l.state ≠ .queued ∧ l.state ≠ .sent)
    (noWait : d.waiting = none) (noReset : s.cb.resetWaiting = false) : s.examine t = s.settle t d := by
  simp [examine, entry, pending, DataEntry.anyInFlight_eq_false settled, noWait, noReset]

end Sys2Proof.Machine.State
end

section

/-! The result of a settled WRITE (R70, R71). -/

namespace Sys2Proof.Machine

theorem Parts.numbers_ne_nil (p : Parts) : p.numbers ≠ [] := by
  unfold Parts.numbers; split <;> simp

theorem Parts.numbers_nodup (p : Parts) : p.numbers.Nodup := by
  unfold Parts.numbers; split <;> decide

namespace DataEntry

/-! ## The status as the model tests it -/

/-- R70's three outcomes in the order the model tests them, each with the tests that lead to it. -/
theorem writeStatus_cases (d : DataEntry) :
    (d.writeStatus = .ok ∧ ∀ l ∈ d.legs, l.state.isDone = true) ∨
    (d.writeStatus = .partly ∧ (∃ l ∈ d.legs, ¬ l.state.isDone = true) ∧ ∃ g, d.AppliedTo g) ∨
    (d.writeStatus = .failed ∧ (∃ l ∈ d.legs, ¬ l.state.isDone = true) ∧ ∀ g, ¬ d.AppliedTo g) := by
  unfold writeStatus
  split
  case isTrue done => exact .inl ⟨rfl, List.all_eq_true.1 done⟩
  case isFalse notDone =>
    have someNotDone : ∃ l ∈ d.legs, ¬ l.state.isDone = true := by simpa using notDone
    split
    case isTrue applied =>
      obtain ⟨g, -, applied⟩ := List.any_eq_true.1 applied
      exact .inr (.inl ⟨rfl, someNotDone, g, (d.appliedOn_iff g).1 applied⟩)
    case isFalse nowhere =>
      exact .inr (.inr ⟨rfl, someNotDone, fun g applied =>
        nowhere (List.any_eq_true.2 ⟨g, mem_allSegs g, (d.appliedOn_iff g).2 applied⟩)⟩)

theorem writeStatus_eq_ok_iff (d : DataEntry) :
    d.writeStatus = .ok ↔ ∀ l ∈ d.legs, l.state.isDone = true := by
  obtain ⟨status, done⟩ | ⟨status, notDone, -⟩ | ⟨status, notDone, -⟩ := d.writeStatus_cases
  · exact iff_of_true status done
  · exact iff_of_false (by simp [status]) (by simpa using notDone)
  · exact iff_of_false (by simp [status]) (by simpa using notDone)

/-! ## The legs of a WRITE: one per legged segment and part -/

/-- The leg list holds exactly one leg for every legged segment and part, in that order (R41, R62). -/
def LegPerPart (d : DataEntry) (legged : List SegId) : Prop :=
  (d.legs.map fun l => (l.seg, l.part)) = legged.flatMap fun g => d.parts.numbers.map fun p => (g, p)

namespace LegPerPart
variable {d : DataEntry} {legged : List SegId}

theorem eq_product (legs : d.LegPerPart legged) :
    (d.legs.map fun l => (l.seg, l.part)) = legged ×ˢ d.parts.numbers := legs

theorem exists_leg_iff (legs : d.LegPerPart legged) {g : SegId} {p : PartNo} :
    (∃ l ∈ d.legs, l.seg = g ∧ l.part = p) ↔ g ∈ legged ∧ p ∈ d.parts.numbers := by
  rw [← List.mem_product, ← legs.eq_product, List.mem_map]
  simp only [Prod.mk.injEq]

/-- No two legs stand on the same segment for the same part. -/
theorem leg_unique (legs : d.LegPerPart legged) (once : legged.Nodup) {l m : Leg}
    (hl : l ∈ d.legs) (hm : m ∈ d.legs) (seg : l.seg = m.seg) (part : l.part = m.part) : l = m := by
  have pairs : (d.legs.map fun l => (l.seg, l.part)).Nodup := by
    rw [legs.eq_product]
    exact once.product d.parts.numbers_nodup
  exact List.inj_on_of_nodup_map pairs hl hm (Prod.ext seg part)

/-- A WRITE is applied only to segments it was legged to: every request has a part. -/
theorem mem_legged_of_appliedTo (legs : d.LegPerPart legged) {g : SegId} (applied : d.AppliedTo g) : g ∈ legged := by
  obtain ⟨p, hp⟩ := List.exists_mem_of_ne_nil _ d.parts.numbers_ne_nil
  obtain ⟨l, on, seg, part, -⟩ := applied p hp
  exact (legs.exists_leg_iff.1 ⟨l, on, seg, part⟩).1

/-- Every leg is DONE just when the WRITE is applied to every legged segment: a segment's part has a single leg, so an
applied segment has no leg that is not DONE. -/
theorem forall_isDone_iff (legs : d.LegPerPart legged) (once : legged.Nodup) :
    (∀ l ∈ d.legs, l.state.isDone = true) ↔ ∀ g ∈ legged, d.AppliedTo g := by
  constructor
  · intro done g hg p hp
    obtain ⟨l, on, seg, part⟩ := legs.exists_leg_iff.2 ⟨hg, hp⟩
    exact ⟨l, on, seg, part, done l on⟩
  · intro applied l on
    obtain ⟨hg, hp⟩ := legs.exists_leg_iff.1 ⟨l, on, rfl, rfl⟩
    obtain ⟨m, hm, seg, part, done⟩ := applied l.seg hg l.part hp
    exact legs.leg_unique once hm on seg part ▸ done

/-! ## The status as R70 words it -/

theorem writeStatus_eq_partly_iff (legs : d.LegPerPart legged) (once : legged.Nodup) :
    d.writeStatus = .partly ↔ (∃ g ∈ legged, d.AppliedTo g) ∧ ∃ g ∈ legged, ¬ d.AppliedTo g := by
  obtain ⟨status, done⟩ | ⟨status, notDone, g, applied⟩ | ⟨status, -, nowhere⟩ := d.writeStatus_cases
  case inl =>
    have everywhere := (legs.forall_isDone_iff once).1 done
    exact iff_of_false (by simp [status]) fun ⟨_, g, hg, missed⟩ => missed (everywhere g hg)
  case inr.inl =>
    have missed : ∃ g ∈ legged, ¬ d.AppliedTo g := by
      by_contra none
      obtain ⟨l, on, unfinished⟩ := notDone
      exact unfinished ((legs.forall_isDone_iff once).2 (by simpa using none) l on)
    exact iff_of_true status ⟨⟨g, legs.mem_legged_of_appliedTo applied, applied⟩, missed⟩
  case inr.inr => exact iff_of_false (by simp [status]) fun ⟨⟨g, _, applied⟩, _⟩ => nowhere g applied

/-- A WRITE with all its legs DONE is applied somewhere, since it was legged to some segment. -/
theorem writeStatus_eq_failed_iff (legs : d.LegPerPart legged) (once : legged.Nodup) (someSegment : legged ≠ []) :
    d.writeStatus = .failed ↔ ∀ g, ¬ d.AppliedTo g := by
  obtain ⟨status, done⟩ | ⟨status, -, g, applied⟩ | ⟨status, -, nowhere⟩ := d.writeStatus_cases
  case inl =>
    obtain ⟨g, hg⟩ := List.exists_mem_of_ne_nil _ someSegment
    exact iff_of_false (by simp [status]) fun nowhere => nowhere g ((legs.forall_isDone_iff once).1 done g hg)
  case inr.inl => exact iff_of_false (by simp [status]) fun nowhere => nowhere g applied
  case inr.inr => exact iff_of_true status nowhere

end LegPerPart

end DataEntry

/-- A settled WRITE is answered with its own response and freed (R47, R71). -/
theorem State.examine_settled_write {s : State} {t : Tag} {d : DataEntry} {data : List Word} {skipped : SegSet}
    (entry : s.entry t = .data d) (write : d.request = .write data skipped) (pending : d.phase = .pending)
    (noReset : s.cb.resetWaiting = false) (settled : ∀ l ∈ d.legs, l.state ≠ .queued ∧ l.state ≠ .sent) :
    s.examine t = (s.placeResponse (d.writeResponse t)).freeEntry t := by
  rw [State.examine_eq_settle entry pending settled (by simp [DataEntry.waiting, write]) noReset]
  simp only [State.settle, write]
  rfl

/-- Settles O26: the response is `writeResponse`, whose status is read off the legs by `LegPerPart`. -/
theorem writeSettles : Obligations.WriteSettles := by
  intro s t d data skipped legged entry write pending noReset settled someSegment once legs
  replace legs : d.LegPerPart legged := legs
  refine ⟨d.writeResponse t, State.examine_settled_write entry write pending noReset settled, ?kind, rfl,
    d.writeStatus_cases.imp And.left (Or.imp And.left And.left), d.writeStatus_eq_ok_iff,
    legs.writeStatus_eq_partly_iff once, legs.writeStatus_eq_failed_iff once someSegment,
    d.hasSeg_applied, ?skipped, rfl, fun g => ?detail, rfl⟩
  case kind =>
    simp only [DataEntry.writeResponse, DataEntry.kindCode, write]
    rfl
  case skipped => simp only [DataEntry.writeResponse, DataEntry.skipped, write]
  case detail =>
    rw [detailField_of_segmentDetail (r := d.writeResponse t) rfl d.failureCode_lt, d.failureCode_eq_firstReason]

end Sys2Proof.Machine
end

section

/-! The result of a settled VOTE READ (R91 to R94): the winning data the model searches for, against the agreement of
two successful members. -/

namespace Sys2Proof.Machine

namespace DataEntry

/-! ## The members and their data -/

/-- The words of a part's DONE leg are read alike along the segment's own legs and along the whole leg list. -/
theorem dataFrom_eq_wordsFrom (d : DataEntry) (g : SegId) : d.dataFrom g = d.wordsFrom g := by
  unfold dataFrom wordsFrom
  congr 1
  funext p
  have sameLeg : (d.legsOn g).find? (fun l => l.part == p && l.state.isDone) =
      d.legs.find? fun l => decide (l.seg = g ∧ l.part = p ∧ l.state.isDone = true) := by
    simp [legsOn, List.find?_filter, Bool.decide_and, Bool.beq_eq_decide_eq]
  rw [sameLeg]
  cases d.legs.find? fun l => decide (l.seg = g ∧ l.part = p ∧ l.state.isDone = true) with
  | none => rfl
  | some l =>
    obtain ⟨seg, part, state, timeouts⟩ := l
    cases state with
    | done words => cases words <;> rfl
    | _ => rfl

theorem mem_successful {d : DataEntry} {g : SegId} : g ∈ d.successful ↔ d.AppliedTo g := by
  rw [successful, List.mem_filter, appliedOn_iff, and_iff_right (mem_allSegs g)]

theorem successful_nodup (d : DataEntry) : d.successful.Nodup :=
  List.Nodup.filter _ (by decide : allSegs.Nodup)

theorem two_le_length_successful_iff (d : DataEntry) :
    2 ≤ d.successful.length ↔ ∃ g h, g ≠ h ∧ d.AppliedTo g ∧ d.AppliedTo h := by
  rw [← List.toFinset_card_of_nodup d.successful_nodup, Nat.succ_le_iff, Finset.one_lt_card]
  simp only [List.mem_toFinset, mem_successful]
  exact ⟨fun ⟨g, hg, h, hh, ne⟩ => ⟨g, h, ne, hg, hh⟩, fun ⟨g, h, ne, hg, hh⟩ => ⟨g, hg, h, hh, ne⟩⟩

/-- A segment every part is DONE on has a leg: every request has a part. -/
theorem exists_leg_of_appliedTo {d : DataEntry} {g : SegId} (applied : d.AppliedTo g) : ∃ l ∈ d.legs, l.seg = g := by
  obtain ⟨p, hp⟩ := List.exists_mem_of_ne_nil _ d.parts.numbers_ne_nil
  obtain ⟨l, on, seg, -⟩ := applied p hp
  exact ⟨l, on, seg⟩

/-! ## Agreement and dissent as R92 and R93 word them -/

/-- Two successful members agree (R92). -/
def Agree (d : DataEntry) (g h : SegId) : Prop :=
  g ≠ h ∧ d.AppliedTo g ∧ d.AppliedTo h ∧ d.wordsFrom g = d.wordsFrom h

/-- There is winning data: some two successful members agree (R92). -/
def Won (d : DataEntry) : Prop := ∃ g h, d.Agree g h

/-- A successful member differs from the winning data or, with no winning data, two members succeeded (R93). -/
def Dissents (d : DataEntry) : Prop :=
  (∃ g h k, d.Agree g h ∧ d.AppliedTo k ∧ d.wordsFrom k ≠ d.wordsFrom g) ∨
    ¬ d.Won ∧ ∃ g h, g ≠ h ∧ d.AppliedTo g ∧ d.AppliedTo h

/-- All pairs that agree do so on the same data. -/
def OneWinner (d : DataEntry) : Prop :=
  ∀ g h g' h', d.Agree g h → d.Agree g' h' → d.wordsFrom g = d.wordsFrom g'

/-- Two pairs that agree on different data share no member, which takes four members (R92). -/
theorem oneWinner_of_length_le_three {d : DataEntry} {members : List SegId}
    (legged : ∀ l ∈ d.legs, l.seg ∈ members) (few : members.length ≤ 3) : d.OneWinner := by
  rintro g h g' h' ⟨ne, hg, hh, same⟩ ⟨ne', hg', hh', same'⟩
  by_contra differ
  have fourApart : [g, h, g', h'].Nodup := by
    have apart : ∀ {a b}, d.wordsFrom a = d.wordsFrom g → d.wordsFrom b = d.wordsFrom g' → a ≠ b :=
      fun ha hb eq => differ (by rw [← ha, ← hb, eq])
    simp [ne, ne', apart rfl rfl, apart rfl same'.symm, apart same.symm rfl, apart same.symm same'.symm]
  have allMembers : [g, h, g', h'] ⊆ members := by
    have member : ∀ {a}, d.AppliedTo a → a ∈ members := fun applied => by
      obtain ⟨l, on, seg⟩ := exists_leg_of_appliedTo applied
      exact seg ▸ legged l on
    simp [member hg, member hh, member hg', member hh']
  have four : 4 ≤ members.length := (fourApart.subperm allMembers).length_le
  omega

/-! ## The winning data -/

/-- The two ends of the model's search for winning data. -/
theorem winning?_cases (d : DataEntry) :
    (¬ d.Won ∧ d.winning? = none) ∨ ∃ g h, d.Agree g h ∧ d.winning? = some (d.wordsFrom g) := by
  unfold winning?
  cases found : d.successful.find? fun g => d.successful.any fun h => g != h && d.dataFrom g == d.dataFrom h with
  | none =>
    refine .inl ⟨fun ⟨g, h, ne, hg, hh, same⟩ => ?_, rfl⟩
    refine List.find?_eq_none.1 found g (mem_successful.2 hg) (List.any_eq_true.2 ⟨h, mem_successful.2 hh, ?_⟩)
    simp [ne, dataFrom_eq_wordsFrom, same]
  | some g =>
    obtain ⟨h, hh, ne, same⟩ : ∃ h, d.AppliedTo h ∧ g ≠ h ∧ d.wordsFrom g = d.wordsFrom h := by
      simpa [mem_successful, dataFrom_eq_wordsFrom] using List.find?_some found
    have hg : d.AppliedTo g := mem_successful.1 (List.mem_of_find?_eq_some found)
    exact .inr ⟨g, h, ⟨ne, hg, hh, same⟩, by rw [Option.map_some, dataFrom_eq_wordsFrom]⟩

theorem winning?_of_not_won {d : DataEntry} (lost : ¬ d.Won) : d.winning? = none := by
  obtain ⟨-, none⟩ | ⟨g, h, agree, -⟩ := d.winning?_cases
  · exact none
  · exact absurd ⟨g, h, agree⟩ lost

theorem winning?_of_agree {d : DataEntry} (one : d.OneWinner) {g h : SegId} (agree : d.Agree g h) :
    d.winning? = some (d.wordsFrom g) := by
  obtain ⟨lost, -⟩ | ⟨g', h', agree', found⟩ := d.winning?_cases
  · exact absurd ⟨g, h, agree⟩ lost
  · rw [found, one g' h' g h agree' agree]

theorem isSome_winning?_iff (d : DataEntry) : d.winning?.isSome = true ↔ d.Won := by
  obtain ⟨lost, none⟩ | ⟨g, h, agree, found⟩ := d.winning?_cases
  · exact iff_of_false (by simp [none]) lost
  · exact iff_of_true (by simp [found]) ⟨g, h, agree⟩

/-! ## Dissent -/

theorem hasDissent_of_winning? {d : DataEntry} {x : List Word} (winning : d.winning? = some x) :
    d.hasDissent = true ↔ ∃ k, d.AppliedTo k ∧ d.wordsFrom k ≠ x := by
  simp [hasDissent, winning, mem_successful, dataFrom_eq_wordsFrom]

theorem hasDissent_of_not_won {d : DataEntry} (lost : ¬ d.Won) :
    d.hasDissent = true ↔ ∃ g h, g ≠ h ∧ d.AppliedTo g ∧ d.AppliedTo h := by
  rw [← two_le_length_successful_iff]
  simp [hasDissent, winning?_of_not_won lost]

theorem hasDissent_iff {d : DataEntry} (one : d.OneWinner) : d.hasDissent = true ↔ d.Dissents := by
  by_cases won : d.Won
  case pos =>
    obtain ⟨g, h, agree⟩ := won
    rw [hasDissent_of_winning? (winning?_of_agree one agree)]
    constructor
    · rintro ⟨k, applied, differs⟩
      exact .inl ⟨g, h, k, agree, applied, differs⟩
    · rintro (⟨g', h', k, agree', applied, differs⟩ | ⟨lost, -⟩)
      · exact ⟨k, applied, one g h g' h' agree agree' ▸ differs⟩
      · exact absurd ⟨g, h, agree⟩ lost
  case neg =>
    rw [hasDissent_of_not_won won]
    constructor
    · exact fun two => .inr ⟨won, two⟩
    · rintro (⟨g, h, -, agree, -⟩ | ⟨-, two⟩)
      · exact absurd ⟨g, h, agree⟩ won
      · exact two

/-! ## The detail fields (R94) -/

theorem voteCode_of_not_appliedTo {d : DataEntry} {g : SegId} (failed : ¬ d.AppliedTo g) :
    d.voteCode g = d.firstReason g := by
  rw [voteCode, if_neg (by rwa [appliedOn_iff]), failureCode_eq_firstReason]

theorem voteCode_of_winning? {d : DataEntry} {g : SegId} {x : List Word} (applied : d.AppliedTo g)
    (winning : d.winning? = some x) : d.voteCode g = if d.wordsFrom g = x then 0 else 5 := by
  simp [voteCode, (d.appliedOn_iff g).2 applied, winning, dataFrom_eq_wordsFrom, differedCode]

theorem voteCode_of_not_won {d : DataEntry} {g : SegId} (applied : d.AppliedTo g) (lost : ¬ d.Won) :
    d.voteCode g = if d.hasDissent then 5 else 0 := by
  simp [voteCode, (d.appliedOn_iff g).2 applied, winning?_of_not_won lost, differedCode]

theorem voteCode_lt (d : DataEntry) (g : SegId) : d.voteCode g < 2 ^ 8 := by
  by_cases applied : d.AppliedTo g
  case neg => exact voteCode_of_not_appliedTo applied ▸ d.failureCode_eq_firstReason g ▸ d.failureCode_lt g
  case pos =>
    obtain ⟨lost, -⟩ | ⟨_, _, -, winning⟩ := d.winning?_cases
    · rw [voteCode_of_not_won applied lost]
      split <;> decide
    · rw [voteCode_of_winning? applied winning]
      split <;> decide

/-! ## The response (R92, R94) -/

theorem voteResponse_status_cases (d : DataEntry) (t : Tag) :
    (d.voteResponse t).status = .ok ∨ (d.voteResponse t).status = .voteFail := by
  unfold voteResponse
  cases d.winning?.isSome
  · exact .inr rfl
  · exact .inl rfl

theorem voteResponse_status_eq_ok_iff (d : DataEntry) (t : Tag) : (d.voteResponse t).status = .ok ↔ d.Won := by
  rw [← isSome_winning?_iff, voteResponse]
  cases d.winning?.isSome <;> simp

theorem voteResponse_data_of_agree {d : DataEntry} (one : d.OneWinner) (t : Tag) {g h : SegId} (agree : d.Agree g h) :
    (d.voteResponse t).data = d.wordsFrom g := by
  rw [voteResponse, winning?_of_agree one agree, Option.getD_some]

theorem voteResponse_data_of_not_won {d : DataEntry} (t : Tag) (lost : ¬ d.Won) : (d.voteResponse t).data = [] := by
  rw [voteResponse, winning?_of_not_won lost, Option.getD_none]

theorem voteResponse_detailField (d : DataEntry) (t : Tag) (g : SegId) :
    (d.voteResponse t).detailField g = d.voteCode g :=
  detailField_of_segmentDetail rfl d.voteCode_lt g

/-- A successful member's field: against the response's own data when there is winning data, else by the dissent. -/
theorem voteResponse_detailField_of_appliedTo {d : DataEntry} (one : d.OneWinner) (t : Tag) {g : SegId}
    (applied : d.AppliedTo g) :
    (d.Won ∧ (d.voteResponse t).detailField g = if d.wordsFrom g = (d.voteResponse t).data then 0 else 5) ∨
    (¬ d.Won ∧ (d.voteResponse t).detailField g = if d.hasDissent then 5 else 0) := by
  rw [voteResponse_detailField]
  by_cases won : d.Won
  case pos =>
    obtain ⟨h, k, agree⟩ := won
    rw [voteResponse_data_of_agree one t agree]
    exact .inl ⟨⟨h, k, agree⟩, voteCode_of_winning? applied (winning?_of_agree one agree)⟩
  case neg => exact .inr ⟨won, voteCode_of_not_won applied won⟩

theorem voteResponse_detailField_eq_differed {d : DataEntry} (one : d.OneWinner) (t : Tag) {g : SegId}
    (applied : d.AppliedTo g)
    (differs : d.Won ∧ d.wordsFrom g ≠ (d.voteResponse t).data ∨ ¬ d.Won ∧ d.Dissents) :
    (d.voteResponse t).detailField g = 5 := by
  obtain ⟨won, field⟩ | ⟨lost, field⟩ := voteResponse_detailField_of_appliedTo one t applied
  · rw [field, if_neg (differs.resolve_right fun other => other.1 won).2]
  · rw [field, if_pos ((hasDissent_iff one).2 (differs.resolve_left fun other => lost other.1).2)]

theorem voteResponse_detailField_eq_zero {d : DataEntry} (one : d.OneWinner) (t : Tag) {g : SegId}
    (applied : d.AppliedTo g)
    (confirmed : d.Won ∧ d.wordsFrom g = (d.voteResponse t).data ∨ ¬ d.Won ∧ ¬ d.Dissents) :
    (d.voteResponse t).detailField g = 0 := by
  obtain ⟨won, field⟩ | ⟨lost, field⟩ := voteResponse_detailField_of_appliedTo one t applied
  · rw [field, if_pos (confirmed.resolve_right fun other => other.1 won).2]
  · rw [field, if_neg]
    exact mt (hasDissent_iff one).1 (confirmed.resolve_left fun other => lost other.1).2

end DataEntry

/-- A settled VOTE READ is counted, its dissent kept on the entry and raised on level 1, and it is answered with its own
response and freed (R47, R93, R94). -/
theorem State.examine_settled_vote {s : State} {t : Tag} {d : DataEntry} {b : Bool}
    (entry : s.entry t = .data d) (vote : d.request = .vote b) (pending : d.phase = .pending)
    (noReset : s.cb.resetWaiting = false) (settled : ∀ l ∈ d.legs, l.state ≠ .queued ∧ l.state ≠ .sent) :
    s.examine t = (State.placeResponse
      ((if d.hasDissent = true then s.raise 1 (toWord t.val) else s).setEntry t
        (.data { d with request := .vote d.hasDissent })) (d.voteResponse t)).freeEntry t := by
  rw [State.examine_eq_settle entry pending settled (by simp [DataEntry.waiting, vote]) noReset]
  simp only [State.settle, vote]
  rfl

/-- Settles O28: the response is `voteResponse`; with at most three members all pairs that agree do so on one data,
which is the data the model's search finds. -/
theorem voteSettles : Obligations.VoteSettles := by
  intro s t d b members entry vote pending noReset legs few
  have settled : ∀ l ∈ d.legs, l.state ≠ .queued ∧ l.state ≠ .sent := fun l on =>
    ⟨(legs l on).1, (legs l on).2.1⟩
  have one : d.OneWinner := DataEntry.oneWinner_of_length_le_three (fun l on => (legs l on).2.2) few
  refine ⟨d.voteResponse t, State.examine_settled_vote entry vote pending noReset settled, ?kind, rfl,
    d.voteResponse_status_cases t, d.voteResponse_status_eq_ok_iff t, DataEntry.hasDissent_iff one,
    fun g h => DataEntry.voteResponse_data_of_agree one t, DataEntry.voteResponse_data_of_not_won t,
    d.hasSeg_applied, rfl, fun g => ⟨fun failed => ?detail, DataEntry.voteResponse_detailField_eq_differed one t,
      DataEntry.voteResponse_detailField_eq_zero one t⟩⟩
  case kind =>
    simp only [DataEntry.voteResponse, DataEntry.kindCode, vote]
    rfl
  case detail => rw [d.voteResponse_detailField, DataEntry.voteCode_of_not_appliedTo failed]

end Sys2Proof.Machine
end

section

/-! The structural check of a taken frame (R170) and its MALFORMED answer. -/

namespace Sys2Proof.Machine

namespace RequestKind

theorem ofCode?_code (k : RequestKind) : ofCode? k.code = some k := by cases k <;> rfl

theorem code_of_ofCode? {c : Byte} {k : RequestKind} (named : ofCode? c = some k) : k.code = c :=
  beq_iff_eq.1 (List.find?_some (p := fun j : RequestKind => j.code == c) named)

theorem ofCode?_eq_some_iff {c : Byte} {k : RequestKind} : ofCode? c = some k ↔ k.code = c :=
  ⟨code_of_ofCode?, fun same => same ▸ ofCode?_code k⟩

theorem ofCode?_eq_none_iff {c : Byte} : ofCode? c = none ↔ ∀ k : RequestKind, k.code ≠ c := by
  simp only [Option.eq_none_iff_forall_ne_some, ne_eq, ofCode?_eq_some_iff]

/-- R170's table of payload lengths. -/
theorem lengthAllowed_iff (n : Nat) (k : RequestKind) : k.lengthAllowed n = true ↔ match k with
    | .read | .write | .cread | .cwrite => 1 ≤ n ∧ n ≤ 17
    | .flush | .cancel => n = 0
    | .command | .release => n = 2 := by
  cases k <;> simp [lengthAllowed]

end RequestKind

namespace RxFrame

/-- R170's three cases: no kind has the code, the length field is wrong, the length is not allowed for the kind. -/
theorem structuralKind?_eq_none_iff {f : RxFrame} : f.structuralKind? = none ↔
    (∀ k : RequestKind, k.code ≠ f.kindCode) ∨ f.lengthField ≠ f.payload.length ∨
    ∃ k : RequestKind, k.code = f.kindCode ∧ ¬ k.lengthAllowed f.payload.length = true := by
  simp only [← RequestKind.ofCode?_eq_none_iff, ← RequestKind.ofCode?_eq_some_iff, structuralKind?]
  cases RequestKind.ofCode? f.kindCode with
  | none => simp
  | some k => simp [imp_iff_not_or]

/-- A CWRITE that passed the structural check goes to one of the five CWRITE rows. -/
theorem cwriteRow_ne_malformedFrame (f : RxFrame) : f.cwriteRow ≠ .malformedFrame := by
  unfold cwriteRow
  dsimp only
  split_ifs <;> nofun

/-- A COMMAND that passed it goes to its command's row or to that of the unknown codes. -/
theorem commandRow_ne_malformedFrame (f : RxFrame) : f.commandRow ≠ .malformedFrame := by
  unfold commandRow
  split <;> nofun

/-- MALFORMED_FRAME takes exactly the frames that fail the structural check. -/
theorem row_eq_malformedFrame_iff (f : RxFrame) : f.row = .malformedFrame ↔ f.structuralKind? = none := by
  unfold row
  cases f.structuralKind? with
  | none => exact iff_of_true rfl rfl
  | some kind =>
    refine iff_of_false ?_ nofun
    cases kind with
    | cwrite => exact f.cwriteRow_ne_malformedFrame
    | command => exact f.commandRow_ne_malformedFrame
    | read | write | flush | cancel | cread | release => nofun

end RxFrame

theorem exec_malformedFrame_of_takes {s : State} {f : RxFrame} {rest : List RxFrame}
    (h : Takes s .malformedFrame f rest) :
    exec .malformedFrame s = .next (((s.taken rest).answerMalformed f).finish s) :=
  congrArg Host.Outcome.next (h.takeFrame State.answerMalformed)

/-- Settles O14: the row is the frame's exactly when the structural check names no kind, and the answer is given with no
look at the tag. -/
theorem malformedFrame : Obligations.MalformedFrame := by
  refine ⟨fun f => ?cases, fun s f rest takes => exec_malformedFrame_of_takes takes⟩
  rw [RxFrame.row_eq_malformedFrame_iff, RxFrame.structuralKind?_eq_none_iff]
  exact or_congr_right (or_congr_right (exists_congr fun k =>
    and_congr_right fun _ => not_congr (k.lengthAllowed_iff f.payload.length)))

end Sys2Proof.Machine
end

section

/-! What the accessors show after the changes that touch every segment or every level at once. -/

namespace Sys2Proof.Machine

@[simp] theorem SegState.elapse_carries (n : Nat) (st : SegState) : (st.elapse n).carries = st.carries := by
  cases st <;> rfl

theorem mem_allLevels (l : LevelId) : l ∈ allLevels := by
  revert l; decide

theorem mem_allTags (t : Tag) : t ∈ allTags := List.mem_finRange t

theorem allTags_nodup : allTags.Nodup := List.nodup_finRange 32

theorem deviceLevel_injective {g h : SegId} (same : deviceLevel g = deviceLevel h) : g = h := by
  simpa [deviceLevel, Fin.ext_iff] using same

namespace State

@[simp] theorem seg_elapse (s : State) (n : Nat) (g : SegId) : (s.elapse n).seg g = (s.seg g).elapse n := by
  simp [seg, elapse]

@[simp] theorem level_elapse (s : State) (n : Nat) (l : LevelId) : (s.elapse n).level l = (s.level l).elapse n := by
  simp [level, elapse]

@[simp] theorem level_attentionLoss (s : State) (l : LevelId) : s.attentionLoss.level l = (s.level l).returned l := by
  simp [level, attentionLoss]

@[simp] theorem seg_applyManagementReset (s : State) (g : SegId) :
    s.applyManagementReset.seg g = (s.seg g).managementReset := by
  simp [seg, applyManagementReset, attentionReset]

@[simp] theorem level_applyManagementReset (s : State) (l : LevelId) :
    s.applyManagementReset.level l = { s.level l with latch := none, service := none } := by
  simp [level, applyManagementReset, attentionReset]

@[simp] theorem entry_applyManagementReset (s : State) (t : Tag) : s.applyManagementReset.entry t = .free := by
  simp [entry, applyManagementReset]

@[simp] theorem entry_reset (t : Tag) : State.reset.entry t = .free := by simp [entry, State.reset]

@[simp] theorem seg_reset (g : SegId) : State.reset.seg g = .reset := by simp [seg, State.reset]

@[simp] theorem level_reset (l : LevelId) : State.reset.level l = .reset := by
  simp [level, State.reset, AttentionUnit.reset]

@[simp] theorem counter_reset (i : Fin 49) : State.reset.counter i = 0 := by
  simp [counter, State.reset, ControlBlock.reset]

theorem level_raise (s : State) (l m : LevelId) (d : Word) :
    (s.raise l d).level m = if m = l then (s.level m).raised m d else s.level m := by
  rw [raise, level_setLevel]
  split
  · subst m; rfl
  · rfl

@[simp] theorem level_uncountEntry (s : State) (t : Tag) (l : LevelId) (h : l ≠ 6) :
    (s.uncountEntry t).level l = s.level l := by
  unfold uncountEntry
  split
  · unfold countOut
    dsimp only
    split
    · exact level_setLevel_of_ne _ _ h
    · rfl
  · rfl

/-- One count leaves every level as it is, but for the raise of level 7 that a filled counter brings (R200). -/
theorem level_count (s : State) (i : Fin 49) (told : Bool) (l : LevelId) :
    (s.count i told).level l = s.level l ∨ (s.count i told).level l = (s.level l).raised l 0 := by
  unfold count level
  dsimp only
  split
  · simp only [Fin.getElem_fin, Vector.getElem_set]
    split
    · rename_i same
      obtain rfl : l = 7 := Fin.ext same.symm
      exact .inr rfl
    · exact .inl rfl
  · exact .inl rfl

end State

end Sys2Proof.Machine
end

section

/-! The tables' invariant (R18, R135, R150, R199): counters and their saturated set, the active bank, the
configuration. -/

namespace Sys2Proof.Machine

/-- What `StepKeepsTables` states to be kept. -/
def State.TablesKept (s : State) : Prop := s.SaturationExact ∧ s.ActiveValid ∧ s.ConfigInRange

/-! ## Counters and the saturated set (R199, R200) -/

namespace State
variable {s : State} {i : Fin 49}

theorem fills_iff : s.fills i = true ↔ s.counter i ≠ Config.counterMax ∧ s.counter i + 1 = Config.counterMax := by
  simp [fills]

/-- A counter at its largest value does not rise. -/
theorem count_of_full (full : s.counter i = Config.counterMax) (told : Bool) : s.count i told = s := by
  simp [count, fills, full]

theorem count_of_below (below : s.counter i ≠ Config.counterMax) (notLast : s.counter i + 1 ≠ Config.counterMax)
    (told : Bool) : s.count i told = { s with cb.counters := s.cb.counters.set i (s.counter i + 1) } := by
  have noFill : s.fills i = false := Bool.eq_false_iff.2 fun fill => notLast (fills_iff.1 fill).2
  simp [count, noFill, below]

/-- The count that fills a counter adds it to the saturated set and raises level 7, unless it is told already. -/
theorem count_of_last (last : s.counter i + 1 = Config.counterMax) (told : Bool) :
    let full : State := { s with
      cb.counters := s.cb.counters.set i (s.counter i + 1)
      cb.saturated := s.cb.saturated.set i true }
    s.count i told = if told = true then full else full.raise 7 0 := by
  have below : s.counter i ≠ Config.counterMax := fun full => by simp [full, Config.counterMax] at last
  have fill : s.fills i = true := fills_iff.2 ⟨below, last⟩
  cases told <;> simp only [count, fill, below] <;> rfl

/-- With one counter written, the others show what they showed. -/
theorem SaturationExact.set (h : s.SaturationExact) (i : Fin 49) (x : Word) (full : Bool)
    (exact : full = true ↔ x = Config.counterMax) :
    State.SaturationExact { s with
      cb.counters := s.cb.counters.set i x
      cb.saturated := s.cb.saturated.set i full } := by
  intro j
  by_cases same : (i : Nat) = j
  · simpa [counter, same] using exact
  · simpa [counter, same] using h j

/-- One count fills the saturated set exactly when its counter reaches the top. -/
theorem SaturationExact.count (h : s.SaturationExact) (i : Fin 49) (told : Bool) :
    (s.count i told).SaturationExact := by
  by_cases full : s.counter i = Config.counterMax
  case pos => rwa [count_of_full full]
  by_cases last : s.counter i + 1 = Config.counterMax
  case pos =>
    have filled := h.set i (s.counter i + 1) true (iff_of_true rfl last)
    rw [count_of_last last]
    cases told <;> exact filled
  case neg =>
    have before : s.cb.saturated[i] = false := by simpa [full] using h i
    have unset : s.cb.saturated.set i false = s.cb.saturated := by rw [← before]; simp
    rw [count_of_below full last]
    have set := h.set i (s.counter i + 1) false (iff_of_false nofun last)
    rwa [unset] at set

theorem SaturationExact.readClear (h : s.SaturationExact) (i : Fin 49) :
    (s.readEffect (.counterClear i)).SaturationExact :=
  h.set i 0 false (by simp [Config.counterMax])

end State

/-- Settles O54: the three cases of one count. -/
theorem countSaturates : Obligations.CountSaturates := by
  intro s i told risen
  refine ⟨fun full => State.count_of_full full told, fun below notLast => ?rises, fun last => ?fills⟩
  case rises => exact State.count_of_below below (fun top => notLast (eq_sub_of_add_eq top)) told
  case fills => exact State.count_of_last (by rw [last]; rfl) told

/-! ## The configuration -/

/-- No change outside a CWRITE touches a segment's configuration. -/
theorem SegMove.config {c d : SegCtl} (m : SegMove c d) :
    d.sendWindow = c.sendWindow ∧ d.legTimeout = c.legTimeout ∧ d.faultThreshold = c.faultThreshold := by
  cases m <;> exact ⟨rfl, rfl, rfl⟩

/-- A segment whose new configuration is in range, or unchanged, keeps all of it in range. -/
theorem State.ConfigInRange.setSeg {s : State} (h : s.ConfigInRange) (g : SegId) (c : SegCtl)
    (window : c.sendWindow = (s.seg g).sendWindow ∨ 1 ≤ c.sendWindow ∧ c.sendWindow ≤ 4)
    (timeout : c.legTimeout = (s.seg g).legTimeout ∨ 10 ≤ c.legTimeout ∧ c.legTimeout ≤ 65535)
    (threshold : c.faultThreshold = (s.seg g).faultThreshold ∨ 1 ≤ c.faultThreshold ∧ c.faultThreshold ≤ 15) :
    (s.setSeg g c).ConfigInRange := by
  refine ⟨fun m => ?_, h.2⟩
  rw [State.seg_setSeg]
  split
  · have old := h.1 g
    omega
  · exact h.1 m

theorem State.ConfigInRange.of_eq {s t : State} (h : s.ConfigInRange)
    (window : ∀ g, (t.seg g).sendWindow = (s.seg g).sendWindow)
    (timeout : ∀ g, (t.seg g).legTimeout = (s.seg g).legTimeout)
    (threshold : ∀ g, (t.seg g).faultThreshold = (s.seg g).faultThreshold)
    (interval : t.au.interval = s.au.interval) : t.ConfigInRange := by
  refine ⟨fun g => ?_, interval ▸ h.2⟩
  rw [window, timeout, threshold]
  exact h.1 g

/-! ## The active bank -/

theorem WindowBanks.setInflight_active (b : WindowBanks) (which : Bank) (n : Nat) :
    (b.setInflight which n).active = b.active := by
  cases which <;> rfl

theorem WindowBanks.setInflight_record (b : WindowBanks) (which r : Bank) (n : Nat) (w : WindowId) :
    (b.setInflight which n).record r w = b.record r w := by
  cases which <;> cases r <;> rfl

/-- The in-flight counts are no part of a record. -/
theorem State.ActiveValid.setInflight {s : State} (h : s.ActiveValid) (which : Bank) (n : Nat) :
    State.ActiveValid { s with wb := s.wb.setInflight which n } := by
  intro w
  simpa only [WindowBanks.setInflight_active, WindowBanks.setInflight_record] using h w

/-- A write into the shadow leaves the active bank's records as they are (R24, R25). -/
theorem WindowBanks.record_setBank_shadow (b : WindowBanks) (v : Vector WindowRecord 32) (w : WindowId) :
    (b.setBank b.shadow v).record (b.setBank b.shadow v).active w = b.record b.active w := by
  obtain ⟨bankA, bankB, active, _, _, _⟩ := b
  cases active <;> rfl

theorem State.ActiveValid.setShadow {s : State} (h : s.ActiveValid) (v : Vector WindowRecord 32) :
    State.ActiveValid { s with wb := s.wb.setBank s.wb.shadow v } := by
  intro w
  rw [WindowBanks.record_setBank_shadow]
  exact h w

theorem WindowBanks.valid_of_firstInvalid {b : WindowBanks} {which : Bank} (none : b.firstInvalid which = none)
    (w : WindowId) : (b.record which w).valid = true := by
  have passes := List.findSome?_eq_none_iff.1 none w (mem_allTags w)
  rw [Option.map_eq_none_iff] at passes
  simp [WindowRecord.valid, passes]

theorem State.ActiveValid.swapBanks {s : State} (valid : s.wb.firstInvalid s.wb.shadow = none) :
    s.swapBanks.ActiveValid := by
  unfold State.swapBanks
  dsimp only
  split <;> exact WindowBanks.valid_of_firstInvalid valid

/-! ## Every step -/

namespace State.TablesKept
variable {s : State}

theorem reset : State.reset.TablesKept :=
  ⟨by unfold SaturationExact; decide, by unfold ActiveValid; decide, by unfold ConfigInRange; decide⟩

theorem uncountEntry (h : s.TablesKept) (t : Tag) : (s.uncountEntry t).TablesKept := by
  unfold State.uncountEntry
  split
  · rename_i d _
    have counted : State.TablesKept { s with wb := s.wb.setInflight d.bank (s.wb.inflight d.bank - 1) } :=
      ⟨h.1, h.2.1.setInflight _ _, h.2.2⟩
    unfold State.countOut
    dsimp only
    split <;> exact counted
  · exact h

theorem count (h : s.TablesKept) (i : Fin 49) (told : Bool) : (s.count i told).TablesKept :=
  ⟨h.1.count i told, h.2⟩

theorem placeResponse (h : s.TablesKept) (r : Response) : (s.placeResponse r).TablesKept :=
  count (s := { s with tp.tx := s.tp.tx ++ [.response r], tp.held := s.tp.held - 1 }) h _ _

theorem keeps : Keeps State.TablesKept where
  seg g c m h :=
    have ⟨window, timeout, threshold⟩ := m.config
    ⟨h.1, h.2.1, h.2.2.setSeg g c (.inl window) (.inl timeout) (.inl threshold)⟩
  entry _ _ _ _ _ h := h
  count i told h := h.count i told
  raise _ _ h := h
  answer t r _ h := (h.placeResponse r).uncountEntry t
  drop t _ h := uncountEntry (s := State.releaseHold _) h t
  dropReports g h := ⟨h.1, h.2.1, h.2.2.setSeg g _ (.inl rfl) (.inl rfl) (.inl rfl)⟩
  deliver told _ _ _ _ _ h := count h (partCounter .attentionFramesSent) told
  resend _ _ _ _ h := count h (partCounter .attentionResends) false
  deadline _ _ _ _ h := h

theorem takeReport (h : s.TablesKept) (g : SegId) (source : Byte) : (s.takeReport g source).TablesKept := by
  unfold State.takeReport
  have joined : State.TablesKept (s.setSeg g { s.seg g with attention := (s.seg g).attention ++ [source] }) :=
    ⟨h.1, h.2.1, h.2.2.setSeg g _ (.inl rfl) (.inl rfl) (.inl rfl)⟩
  dsimp only
  split
  · exact h
  · split
    · split <;> exact joined.count _ false
    · exact h.count _ false

theorem serveReports (h : s.TablesKept) (g : SegId) : (s.serveReports g).TablesKept := by
  unfold State.serveReports
  split
  · split
    · exact h
    · rename_i head rest _
      have served : State.TablesKept
          ((s.setSeg g { s.seg g with attention := rest }).placeOnLine g (.attnAck head)) :=
        ⟨h.1, h.2.1, (h.2.2.setSeg g { s.seg g with attention := rest } (.inl rfl) (.inl rfl) (.inl rfl)).setSeg g _
          (.inl rfl) (.inl rfl) (.inl rfl)⟩
      dsimp only
      split <;> exact served
  · exact h

theorem releaseLevel (h : s.TablesKept) (l : LevelId) : (s.releaseLevel l).TablesKept := by
  unfold State.releaseLevel
  dsimp only
  split
  · exact serveReports (s := s.setLevel l { s.level l with service := none }) h _
  · exact h

theorem steps : Steps State.TablesKept State.TablesKept where
  p := keeps
  q := keeps
  take _ _ h := h
  answer r h := h.placeResponse r
  openData _ _ _ _ _ _ h := ⟨h.1, h.2.1.setInflight _ _, h.2.2⟩
  openFlush _ _ _ h := h
  shadow _ _ _ _ h := ⟨h.1, h.2.1.setShadow _, h.2.2⟩
  config g _ _ _ _ window timeout threshold h := ⟨h.1, h.2.1, h.2.2.setSeg g _ window timeout threshold⟩
  masks _ h := h
  interval _ fits h := ⟨h.1, h.2.1, h.2.2.1, fits⟩
  readClear i h := ⟨h.1.readClear i, h.2⟩
  swap _ valid h := ⟨by unfold State.swapBanks; dsimp only; split <;> exact h.1, .swapBanks valid,
    h.2.2.of_eq (by simp) (by simp) (by simp) (by simp)⟩
  copy _ h := ⟨h.1, h.2.1.setShadow _, h.2.2⟩
  release l _ _ h := h.releaseLevel l
  waits h := h
  report g source _ h := h.takeReport g source
  pins _ _ _ h := h
  elapse n h := ⟨h.1, h.2.1, h.2.2.of_eq (by simp [SegCtl.elapse]) (by simp [SegCtl.elapse])
    (by simp [SegCtl.elapse]) rfl⟩
  up _ h := h
  down h := h
  returned h := h
  reset h := ⟨h.1, h.2.1, h.2.2.of_eq (by simp [SegCtl.managementReset]) (by simp [SegCtl.managementReset])
    (by simp [SegCtl.managementReset]) rfl⟩
  arrives _ _ _ h := h
  sent _ _ _ h := h
  fresh _ _ := reset
  queue _ h := h

end State.TablesKept

/-- Settles O57: every small change of a step keeps the three together, so a whole step does. -/
theorem stepKeepsTables : Obligations.StepKeepsTables :=
  fun _ _ saturation active config e => State.TablesKept.steps.step e ⟨saturation, active, config⟩

end Sys2Proof.Machine
end

section

/-! The Transit Table's bookkeeping (R21, R43, R49, R51, R167, R168): held places, in-flight counts, barrier sets. -/

namespace Sys2Proof.Machine

/-! ## Counting entries -/

/-- Two tests that agree off one element of a list differ in their counts by that element alone. -/
theorem countP_of_agree_off {α : Type} [DecidableEq α] {p q : α → Bool} {a : α} {as : List α} (once : as.Nodup) (on : a ∈ as)
    (agree : ∀ b, b ≠ a → q b = p b) : as.countP q + (p a).toNat = as.countP p + (q a).toNat := by
  have onSplit : as.Perm (a :: as.erase a) := List.perm_cons_erase on
  have offSame : (as.erase a).countP q = (as.erase a).countP p :=
    List.countP_congr fun b hb => by rw [agree b ((once.mem_erase_iff.1 hb).1)]
  rw [onSplit.countP_eq, onSplit.countP_eq, List.countP_cons, List.countP_cons, offSame]
  cases p a <;> cases q a <;> simp

/-- The entry is an open READ or WRITE decoded under the bank (R21). -/
def Entry.isUnder (which : Bank) : Entry → Bool
  | .data d => d.bank == which
  | _ => false

@[simp] theorem Entry.isOpen_dropBarrierTag (t : Tag) (e : Entry) : (e.dropBarrierTag t).isOpen = e.isOpen := by
  cases e <;> rfl

@[simp] theorem Entry.isUnder_dropBarrierTag (which : Bank) (t : Tag) (e : Entry) :
    (e.dropBarrierTag t).isUnder which = e.isUnder which := by
  cases e <;> rfl

theorem Entry.dropBarrierTag_eq_data {t : Tag} {e : Entry} {d : DataEntry} :
    e.dropBarrierTag t = .data d ↔ e = .data d := by
  cases e <;> simp [dropBarrierTag]

namespace State
variable {s : State}

theorem openTags_length (s : State) : s.openTags.length = allTags.countP fun t => (s.entry t).isOpen :=
  List.countP_eq_length_filter.symm

theorem openUnder_eq (s : State) (which : Bank) :
    s.openUnder which = allTags.countP fun t => (s.entry t).isUnder which := by
  rw [openUnder]
  congr 1

theorem count_setEntry (p : Entry → Bool) (s : State) (t : Tag) (e : Entry) :
    (allTags.countP fun u => p ((s.setEntry t e).entry u)) + (p (s.entry t)).toNat =
      (allTags.countP fun u => p (s.entry u)) + (p e).toNat := by
  have counted := countP_of_agree_off (p := fun u => p (s.entry u)) (q := fun u => p ((s.setEntry t e).entry u))
    allTags_nodup (mem_allTags t) fun u ne => by rw [entry_setEntry_of_ne s e ne]
  simpa using counted

theorem count_clearEntry {p : Entry → Bool} (free : p .free = false) (drop : ∀ t e, p (e.dropBarrierTag t) = p e)
    (s : State) (t : Tag) :
    (allTags.countP fun u => p ((s.clearEntry t).entry u)) + (p (s.entry t)).toNat =
      allTags.countP fun u => p (s.entry u) := by
  have counted := countP_of_agree_off (p := fun u => p (s.entry u)) (q := fun u => p ((s.clearEntry t).entry u))
    allTags_nodup (mem_allTags t) fun u ne => by rw [entry_clearEntry, if_neg ne, drop]
  simpa [entry_clearEntry, free] using counted

theorem openTags_setEntry (s : State) (t : Tag) (e : Entry) :
    (s.setEntry t e).openTags.length + (s.entry t).isOpen.toNat = s.openTags.length + e.isOpen.toNat := by
  simpa only [openTags_length] using count_setEntry Entry.isOpen s t e

theorem openTags_clearEntry (s : State) (t : Tag) :
    (s.clearEntry t).openTags.length + (s.entry t).isOpen.toNat = s.openTags.length := by
  simpa only [openTags_length] using count_clearEntry (p := Entry.isOpen) rfl Entry.isOpen_dropBarrierTag s t

theorem openUnder_setEntry (which : Bank) (s : State) (t : Tag) (e : Entry) :
    (s.setEntry t e).openUnder which + ((s.entry t).isUnder which).toNat =
      s.openUnder which + (e.isUnder which).toNat := by
  simpa only [openUnder_eq] using count_setEntry (Entry.isUnder which) s t e

theorem openUnder_clearEntry (which : Bank) (s : State) (t : Tag) :
    (s.clearEntry t).openUnder which + ((s.entry t).isUnder which).toNat = s.openUnder which := by
  simpa only [openUnder_eq] using
    count_clearEntry (p := Entry.isUnder which) rfl (Entry.isUnder_dropBarrierTag which) s t

theorem openTags_congr {u : State} (same : u.tt = s.tt) : u.openTags = s.openTags := by
  unfold openTags
  congr 1
  funext t
  rw [tagInUse, tagInUse, entry_eq_of_tt same]

theorem openUnder_congr {u : State} (same : u.tt = s.tt) (which : Bank) : u.openUnder which = s.openUnder which := by
  simp only [openUnder_eq, entry_eq_of_tt same]

/-! ## In-flight counts (R21) -/

end State

theorem WindowBanks.inflight_setInflight (b : WindowBanks) (which r : Bank) (n : Nat) :
    (b.setInflight which n).inflight r = if r = which then n else b.inflight r := by
  cases which <;> cases r <;> rfl

theorem WindowBanks.setBank_inflight (b : WindowBanks) (which r : Bank) (v : Vector WindowRecord 32) :
    (b.setBank which v).inflight r = b.inflight r := by
  cases which <;> cases r <;> rfl

namespace State
variable {s : State}

theorem countOut_inflight (s : State) (which r : Bank) :
    (s.countOut which).wb.inflight r = s.wb.inflight r - (which == r).toNat := by
  have counted : (s.countOut which).wb = s.wb.setInflight which (s.wb.inflight which - 1) := by
    unfold countOut
    dsimp only
    split <;> rfl
  rw [counted, WindowBanks.inflight_setInflight]
  by_cases same : r = which
  · simp [same]
  · simp [same, beq_false_of_ne (Ne.symm same)]

/-- A freed READ or WRITE leaves its own bank's count. -/
theorem uncountEntry_inflight (s : State) (t : Tag) (which : Bank) :
    (s.uncountEntry t).wb.inflight which = s.wb.inflight which - ((s.entry t).isUnder which).toNat := by
  unfold uncountEntry
  split
  · rename_i d e
    rw [countOut_inflight, e]
    rfl
  · rename_i other
    cases e : s.entry t with
    | data d => exact absurd e (other d)
    | free | flushing _ _ => rfl

/-- The counts follow an entry that is uncounted and freed. -/
theorem InflightExact.free (h : s.InflightExact) (t : Tag) : ((s.uncountEntry t).clearEntry t).InflightExact := by
  intro which
  have counted := openUnder_clearEntry which (s.uncountEntry t) t
  rw [uncountEntry_entry, openUnder_congr (s.uncountEntry_tt t)] at counted
  have exact := h which
  rw [clearEntry_wb, uncountEntry_inflight]
  omega

/-- They follow an entry that is rewritten under its own bank. -/
theorem InflightExact.setEntry (h : s.InflightExact) {t : Tag} {e : Entry}
    (same : ∀ which, e.isUnder which = (s.entry t).isUnder which) : (s.setEntry t e).InflightExact := by
  intro which
  have counted := openUnder_setEntry which s t e
  rw [same which] at counted
  exact (h which).trans (by omega)

/-- They follow an accepted READ or WRITE (R21). -/
theorem InflightExact.openData (h : s.InflightExact) {t : Tag} {d : DataEntry} (free : s.entry t = .free) :
    ((s.setEntry t (.data d)).countIn d.bank).InflightExact := by
  intro which
  have counted := openUnder_setEntry which s t (.data d)
  rw [free] at counted
  have exact := h which
  have one : (State.countIn (s.setEntry t (.data d)) d.bank).wb.inflight which
      = s.wb.inflight which + ((Entry.data d).isUnder which).toNat := by
    simp only [countIn, WindowBanks.inflight_setInflight, Entry.isUnder]
    by_cases same : which = d.bank
    · simp [same]
    · simp [same, Ne.symm same]
  have unchanged := openUnder_congr (s := s.setEntry t (.data d)) (u := (s.setEntry t (.data d)).countIn d.bank) rfl which
  rw [one, unchanged]
  simp only [Entry.isUnder, Bool.toNat_false] at counted ⊢
  omega

/-! ## Barrier sets (R43, R51) -/

theorem tagInUse_congr {u : State} (same : u.tt = s.tt) (t : Tag) : u.tagInUse t = s.tagInUse t := by
  rw [tagInUse, tagInUse, entry_eq_of_tt same]

theorem BarriersOpen.congr (h : s.BarriersOpen) {u : State} (same : u.tt = s.tt) : u.BarriersOpen := by
  intro t barrier n e
  simp only [entry_eq_of_tt same] at e
  simpa only [tagInUse_congr same] using h t barrier n e

/-- A freed tag leaves every barrier set, so what is left still waits for open entries. -/
theorem BarriersOpen.clearEntry (h : s.BarriersOpen) (t : Tag) : (s.clearEntry t).BarriersOpen := by
  intro u barrier n e
  rw [entry_clearEntry] at e
  split at e
  · cases e
  · obtain ⟨old, eu, rfl⟩ : ∃ old, s.entry u = .flushing old n ∧ barrier = old.filter (· != t) := by
      cases eu : s.entry u with
      | flushing old m =>
        rw [eu] at e
        cases e
        exact ⟨old, rfl, rfl⟩
      | free | data _ => simp [eu, Entry.dropBarrierTag] at e
    obtain ⟨once, notSelf, inUse, fewer, few, many⟩ := h u old n eu
    refine ⟨once.filter _, fun m => notSelf (List.mem_of_mem_filter m), fun v m => ?_,
      (List.length_filter_le ..).trans fewer, few, many⟩
    have ne : v ≠ t := by simpa using List.of_mem_filter m
    rw [tagInUse, entry_clearEntry, if_neg ne, Entry.isOpen_dropBarrierTag]
    exact inUse v (List.mem_of_mem_filter m)

/-- An entry that opens or stays open, and whose own barrier set is in order, leaves all of them in order. -/
theorem BarriersOpen.setEntry (h : s.BarriersOpen) {t : Tag} {e : Entry} (isOpen : e.isOpen = true)
    (own : ∀ barrier n, e = .flushing barrier n → barrier.Nodup ∧ t ∉ barrier ∧
      (∀ u ∈ barrier, s.tagInUse u = true) ∧ barrier.length ≤ n ∧ 1 ≤ n ∧ n ≤ 31) :
    (s.setEntry t e).BarriersOpen := by
  have still : ∀ u, s.tagInUse u = true → (s.setEntry t e).tagInUse u = true := by
    intro u inUse
    rw [tagInUse, entry_setEntry]
    split
    · exact isOpen
    · exact inUse
  intro u barrier n eu
  obtain ⟨once, notSelf, inUse, rest⟩ : barrier.Nodup ∧ u ∉ barrier ∧
      (∀ v ∈ barrier, s.tagInUse v = true) ∧ barrier.length ≤ n ∧ 1 ≤ n ∧ n ≤ 31 := by
    rw [entry_setEntry] at eu
    split at eu
    · subst u; exact own barrier n eu
    · exact h u barrier n eu
  exact ⟨once, notSelf, fun v m => still v (inUse v m), rest⟩

/-- The barrier set of an accepted FLUSH: every open tag, which its own is not (R43). -/
theorem BarriersOpen.openFlush (h : s.BarriersOpen) {t : Tag} (free : s.entry t = .free) (some : s.openTags ≠ []) :
    (s.setEntry t (.flushing s.openTags s.openTags.length)).BarriersOpen := by
  have notSelf : t ∉ s.openTags := fun m => (mem_openTags s t).1 m free
  have once : s.openTags.Nodup := allTags_nodup.filter _
  have few : s.openTags.length ≤ 31 := by
    have all := (List.Nodup.cons notSelf once).length_le_card
    rw [Fintype.card_fin, List.length_cons] at all
    omega
  refine h.setEntry rfl fun barrier n e => ?_
  cases e
  exact ⟨once, notSelf, fun u m => (tagInUse_iff s u).2 ((mem_openTags s u).1 m), Nat.le_refl _,
    List.length_pos_iff.2 some, few⟩

/-! ## Every step -/

/-- What `StepKeepsEntries` states to be kept; `extra` is 1 while a taken frame's place awaits its answer. -/
def EntriesKept (extra : Nat) (s : State) : Prop :=
  (s.tp.held = s.openTags.length + extra ∧ s.tp.tx.length + s.tp.held ≤ Config.transmitPlaces ∧
    s.tp.rx.length ≤ Config.receiveCapacity) ∧ s.InflightExact ∧ s.BarriersOpen

namespace EntriesKept
variable {extra : Nat}

theorem room_of_freePlaces {s : State} (free : 0 < s.freePlaces) :
    s.tp.tx.length + s.tp.held < Config.transmitPlaces := by
  unfold freePlaces at free
  omega

/-- One more attention frame stands in a free place. -/
theorem placeAttention (h : s.EntriesKept extra) (free : 0 < s.freePlaces) (f : TxFrame) :
    EntriesKept extra { s with tp.tx := s.tp.tx ++ [f] } := by
  obtain ⟨⟨held, -, buffer⟩, rest⟩ := h
  have := room_of_freePlaces free
  exact ⟨⟨held, by simp; omega, buffer⟩, rest⟩

/-- A response takes a held place (R168). -/
theorem placeResponse {n : Nat} (held : s.tp.held = n + 1)
    (room : s.tp.tx.length + s.tp.held ≤ Config.transmitPlaces) (r : Response) :
    (s.placeResponse r).tp.held = n ∧ (s.placeResponse r).tp.tx.length + n ≤ Config.transmitPlaces := by
  simp only [State.placeResponse, count_tp, List.length_append, List.length_singleton]
  omega

theorem openTags_of_inUse {t : Tag} (inUse : s.tagInUse t = true) :
    s.openTags.length = (s.clearEntry t).openTags.length + 1 := by
  have counted := openTags_clearEntry s t
  rw [show (s.entry t).isOpen = true from inUse] at counted
  exact counted.symm

/-- An entry that is freed once its place has been used or released. -/
theorem free {u : State} (h : s.EntriesKept extra) (t : Tag) (tt : u.tt = s.tt) (wb : u.wb = s.wb)
    (held : u.tp.held = (s.clearEntry t).openTags.length + extra)
    (room : u.tp.tx.length + u.tp.held ≤ Config.transmitPlaces)
    (rx : u.tp.rx = s.tp.rx) : EntriesKept extra ((u.uncountEntry t).clearEntry t) := by
  obtain ⟨⟨-, -, buffer⟩, inflight, barriers⟩ := h
  have tags : ((u.uncountEntry t).clearEntry t).openTags = (s.clearEntry t).openTags :=
    openTags_congr (by simp [State.clearEntry, tt])
  refine ⟨⟨?_, ?_, ?_⟩, InflightExact.free (fun which => ?_) t, .clearEntry (barriers.congr ?_) t⟩
  · rw [tags]; simpa using held
  · simpa using room
  · simpa [rx] using buffer
  · rw [wb, openUnder_congr tt]; exact inflight which
  · simp [tt]

/-- With no open entry nothing is held, counted or waited for. -/
theorem empty (free : ∀ t, s.entry t = .free) (held : s.tp.held = 0) (tx : s.tp.tx = []) (rx : s.tp.rx = [])
    (inflight : ∀ which, s.wb.inflight which = 0) : s.EntriesKept 0 := by
  refine ⟨⟨?_, by simp [held, tx], by simp [rx]⟩, fun which => ?_, fun t _ _ e => ?_⟩
  · simp [held, openTags_length, free, Entry.isOpen]
  · simp [inflight, openUnder_eq, free, Entry.isUnder]
  · simp [free] at e

theorem keeps (extra : Nat) : Keeps (EntriesKept extra) where
  seg _ _ _ h := h
  entry {s} t d d' e move h := by
    obtain ⟨⟨held, room, buffer⟩, inflight, barriers⟩ := h
    refine ⟨⟨?_, room, buffer⟩, inflight.setEntry fun which => ?_, barriers.setEntry rfl nofun⟩
    · have counted := openTags_setEntry s t (.data d')
      rw [e] at counted
      exact held.trans (by simpa [Entry.isOpen] using counted.symm)
    · rw [e]
      simp only [Entry.isUnder, move.bank]
  count _ _ h := h
  raise _ _ h := h
  answer {s} t r inUse h := by
    have ⟨held, room⟩ := placeResponse (n := (s.clearEntry t).openTags.length + extra)
      (h.1.1.trans (by rw [openTags_of_inUse inUse]; omega)) h.1.2.1 r
    exact h.free t rfl rfl held (held ▸ room) rfl
  drop t inUse h := by
    have tags := openTags_of_inUse inUse
    have held := h.1.1
    have room := h.1.2.1
    refine h.free t rfl rfl ?_ ?_ rfl <;> simp only [State.releaseHold] <;> omega
  dropReports _ h := h
  deliver told l x _ _ free h := h.placeAttention free _
  resend l v _ free h := h.placeAttention free _
  deadline _ _ _ _ h := h

theorem steps : Steps (EntriesKept 0) (EntriesKept 1) where
  p := keeps 0
  q := keeps 1
  take rx may h := by
    obtain ⟨⟨held, -, buffer⟩, rest⟩ := h
    simp only [mayTake, Bool.and_eq_true, decide_eq_true_eq] at may
    have room := room_of_freePlaces may.1.2
    rw [rx, List.length_cons] at buffer
    exact ⟨⟨congrArg (· + 1) held, room, by dsimp only; omega⟩, rest⟩
  answer r h := by
    have ⟨held, room⟩ := placeResponse h.1.1 h.1.2.1 r
    exact ⟨⟨held, held ▸ room, h.1.2.2⟩, h.2⟩
  openData {s} t d free _ _ _ h := by
    obtain ⟨⟨held, room, buffer⟩, inflight, barriers⟩ := h
    have counted := openTags_setEntry s t (.data d)
    rw [free] at counted
    exact ⟨⟨held.trans counted.symm, room, buffer⟩, inflight.openData free, barriers.setEntry rfl nofun⟩
  openFlush {s} t free some h := by
    obtain ⟨⟨held, room, buffer⟩, inflight, barriers⟩ := h
    have counted := openTags_setEntry s t (.flushing s.openTags s.openTags.length)
    rw [free] at counted
    refine ⟨⟨held.trans counted.symm, room, buffer⟩, inflight.setEntry fun which => ?_, barriers.openFlush free some⟩
    rw [free]
    rfl
  shadow w j x _ h := ⟨h.1, fun which => (WindowBanks.setBank_inflight ..).trans (h.2.1 which), h.2.2⟩
  config _ _ _ _ _ _ _ _ h := h
  masks _ h := h
  interval _ _ h := h
  readClear _ h := h
  swap _ _ h := by
    unfold swapBanks
    dsimp only
    split <;> exact h
  copy _ h := ⟨h.1, fun which => (WindowBanks.setBank_inflight ..).trans (h.2.1 which), h.2.2⟩
  release l _ _ h := by
    unfold releaseLevel serveReports
    dsimp only
    repeat' split
    all_goals exact h
  waits h := ⟨⟨h.1.1, h.1.2.1, Nat.zero_le _⟩, h.2⟩
  report g source _ h := by
    unfold takeReport
    dsimp only
    repeat' split
    all_goals exact h
  pins _ _ _ h := h
  elapse _ h := h
  up _ h := h
  down h := by
    obtain ⟨⟨held, room, -⟩, rest⟩ := h
    exact ⟨⟨held, (Nat.le_add_left ..).trans (by simpa using room), Nat.zero_le _⟩, rest⟩
  returned h := h
  reset _ := empty (fun t => entry_applyManagementReset _ t) rfl rfl rfl (fun which => by cases which <;> rfl)
  arrives f _ few h := ⟨⟨h.1.1, h.1.2.1, by simpa using few⟩, h.2⟩
  sent f rest tx h := by
    obtain ⟨⟨held, room, buffer⟩, others⟩ := h
    rw [tx, List.length_cons] at room
    exact ⟨⟨held, by simp only [sendFrame]; omega, buffer⟩, others⟩
  fresh _ _ := empty entry_reset rfl rfl rfl fun which => by cases which <;> rfl
  queue _ h := h

end EntriesKept
end State
/-- Settles O58: between steps every held place is an open entry's; while a taken frame awaits its answer one more is
held, and each small change keeps the balance. -/
theorem stepKeepsEntries : Obligations.StepKeepsEntries := by
  intro s t places inflight barriers e
  exact State.EntriesKept.steps.step e ⟨places, inflight, barriers⟩

end Sys2Proof.Machine
end

section

/-! The segments' invariants: slots, window and leg tags (R100, R102 to R104, R124), attention queues (R153, R155). -/

namespace Sys2Proof.Machine

theorem SegState.carries_of_idle {st : SegState} (h : st.idle = true) : st.carries = false := by
  cases st with
  | offline | faulted => rfl
  | resetting _ | probing _ _ _ | rejoining | active => cases h

theorem SegCtl.maySend_iff (c : SegCtl) : c.maySend = true ↔
    c.state.carries = true ∧ c.queue ≠ [] ∧ c.sent.length < c.sendWindow ∧ ∀ x ∈ c.sent, x.tag ≠ c.legTag := by
  simp [SegCtl.maySend, and_assoc]

namespace State

/-! ## Slots, window and leg tags -/

namespace SlotsKept
variable {c : SegCtl}

/-- What lies outside the queue, the sent list, the window and the state does not matter. -/
theorem congr (h : SlotsKept c) {d : SegCtl} (queue : d.queue = c.queue) (sent : d.sent = c.sent)
    (window : d.sendWindow = c.sendWindow) (state : d.state.carries = c.state.carries) : SlotsKept d := by
  obtain ⟨h1, h2, h3, h4⟩ := h
  exact ⟨by rwa [queue, sent], by rwa [sent, window], by rwa [sent], by rwa [queue, sent, state]⟩

theorem empty {d : SegCtl} (queue : d.queue = []) (sent : d.sent = []) : SlotsKept d :=
  ⟨by simp [queue, sent], by simp [sent], by simp [sent], fun _ => ⟨queue, sent⟩⟩

/-- Legs that leave the two lists free slots. -/
theorem fewer (h : SlotsKept c) {d : SegCtl} (queue : d.queue.Sublist c.queue) (sent : d.sent.Sublist c.sent)
    (window : d.sendWindow = c.sendWindow) (state : d.state = c.state) : SlotsKept d where
  slots := (Nat.add_le_add queue.length_le sent.length_le).trans h.slots
  window := window ▸ sent.length_le.trans h.window
  tags := h.tags.sublist (sent.map _)
  idle idle := by
    obtain ⟨noQueue, noSent⟩ := h.idle (state ▸ idle)
    exact ⟨List.eq_nil_of_sublist_nil (noQueue ▸ queue), List.eq_nil_of_sublist_nil (noSent ▸ sent)⟩

/-- The head of the queue is sent while the window and the next leg tag allow it (R103, R104). -/
theorem send (h : SlotsKept c) {r : LegRef} {rest : List LegRef} (head : c.queue = r :: rest)
    (may : c.maySend = true) (fs : List DownFrame) :
    SlotsKept { c with
      queue := rest
      sent := c.sent ++ [{ ref := r, tag := c.legTag, timer := c.legTimeout }]
      legTag := c.legTag + 1
      line := fs } := by
  obtain ⟨carries, -, window, tagFree⟩ := c.maySend_iff.1 may
  have slots := h.slots
  rw [head, List.length_cons] at slots
  refine ⟨by simp; omega, by simp; omega, ?_, fun idle => absurd carries (by simp [show c.state.carries = false from idle])⟩
  rw [List.map_append, List.nodup_append]
  refine ⟨h.tags, List.nodup_singleton _, fun tag on tag' last => ?_⟩
  obtain ⟨x, hx, rfl⟩ := List.mem_map.1 on
  obtain rfl : tag' = c.legTag := by simpa using last
  exact tagFree x hx

theorem move (h : SlotsKept c) {d : SegCtl} (m : SegMove c d) : SlotsKept d := by
  cases m with
  | line | failures | risen => exact h.congr rfl rfl rfl rfl
  | enqueue refs carries room =>
    refine ⟨by simp; omega, h.window, h.tags, fun idle => ?_⟩
    exact absurd carries (by simp [show c.state.carries = false from idle])
  | withdraw p => exact h.fewer List.filter_sublist (List.Sublist.refl _) rfl rfl
  | send r rest fs head may => exact h.send head may fs
  | probe synced fs idle => exact empty (h.idle idle).1 (h.idle idle).2
  | leave target lf idle silent => exact empty rfl rfl
  | between target was idle => exact empty (h.idle was).1 (h.idle was).2
  | resolve tag n lf => exact h.fewer (List.Sublist.refl _) List.filter_sublist rfl rfl
  | rewind front run again split fewer =>
    have slots := h.slots
    have window := h.window
    have tags := h.tags
    rw [split] at slots window tags
    simp only [List.length_append] at slots window
    refine ⟨by simp; omega, by dsimp only; omega, ?_, fun idle => ?_⟩
    · rw [List.map_append] at tags
      exact tags.of_append_left
    · obtain ⟨noQueue, noSent⟩ := h.idle idle
      obtain ⟨rfl, rfl⟩ : front = [] ∧ run = [] := by simpa [noSent] using split
      exact ⟨by simpa [noQueue] using fewer, rfl⟩
  | answered tag n synced was =>
    obtain ⟨noQueue, noSent⟩ := h.idle (by rw [was]; rfl)
    exact empty noQueue noSent
  | synced was => exact h.congr rfl rfl rfl (by rw [was]; rfl)

end SlotsKept

def SlotsEverywhere (s : State) : Prop := ∀ g, SlotsKept (s.seg g)

namespace SlotsEverywhere
variable {s : State}

theorem setSeg (h : s.SlotsEverywhere) (g : SegId) {c : SegCtl} (kept : SlotsKept c) :
    (s.setSeg g c).SlotsEverywhere := by
  intro m
  rw [seg_setSeg]
  split
  · exact kept
  · exact h m

theorem attention (h : s.SlotsEverywhere) (g : SegId) (q : List Byte) :
    (s.setSeg g { s.seg g with attention := q }).SlotsEverywhere :=
  h.setSeg g ((h g).congr rfl rfl rfl rfl)

theorem placeOnLine (h : s.SlotsEverywhere) (g : SegId) (f : DownFrame) : (s.placeOnLine g f).SlotsEverywhere :=
  h.setSeg g ((h g).move (.line _ _))

theorem serveReports (h : s.SlotsEverywhere) (g : SegId) : (s.serveReports g).SlotsEverywhere := by
  unfold State.serveReports
  split
  · split
    · exact h
    · rename_i head rest _
      have served := (h.attention g rest).placeOnLine g (.attnAck head)
      dsimp only
      split <;> exact served
  · exact h

theorem releaseLevel (h : s.SlotsEverywhere) (l : LevelId) : (s.releaseLevel l).SlotsEverywhere := by
  unfold State.releaseLevel
  dsimp only
  split
  · exact serveReports (s := s.setLevel l { s.level l with service := none }) h _
  · exact h

theorem keeps : Keeps SlotsEverywhere where
  seg g _ m h := h.setSeg g ((h g).move m)
  entry _ _ _ _ _ h := h
  count _ _ h := h
  raise _ _ h := h
  answer t r _ h g := by simpa using h g
  drop t _ h g := by simpa using h g
  dropReports g h := h.attention g []
  deliver _ _ _ _ _ _ h := h
  resend _ _ _ _ h := h
  deadline _ _ _ _ h := h

theorem steps : Steps SlotsEverywhere SlotsEverywhere where
  p := keeps
  q := keeps
  take _ _ h := h
  answer _ h := h
  openData _ _ _ _ _ _ h := h
  openFlush _ _ _ h := h
  shadow _ _ _ _ h := h
  config {s} g window _ _ idle _ _ _ h := by
    obtain ⟨noQueue, noSent⟩ := (h g).idle (SegState.carries_of_idle idle)
    exact h.setSeg g (.empty noQueue noSent)
  masks _ h := h
  interval _ _ h := h
  readClear _ h := h
  swap _ _ h g := by simpa using h g
  copy _ h := h
  release l _ _ h := h.releaseLevel l
  waits h := h
  report {s} g source _ h := by
    have joined := h.attention g ((s.seg g).attention ++ [source])
    unfold takeReport
    dsimp only
    split
    · exact h
    · split
      · split <;> exact joined
      · exact h
  pins _ _ _ h := h
  elapse n h g := by
    rw [seg_elapse]
    obtain ⟨slots, window, tags, idle⟩ := h g
    exact ⟨by simpa [SegCtl.elapse] using slots, by simpa [SegCtl.elapse] using window,
      by simpa [SegCtl.elapse, Function.comp_def] using tags, by simpa [SegCtl.elapse] using idle⟩
  up _ h := h
  down h := h
  returned h := h
  reset _ g := by
    rw [seg_applyManagementReset]
    exact .empty rfl rfl
  arrives _ _ _ h := h
  sent _ _ _ h := h
  fresh _ _ g := by
    have none : SlotsKept (State.reset.seg g) := by rw [seg_reset]; exact .empty rfl rfl
    exact none
  queue _ h := h

end SlotsEverywhere

/-! ## Attention queues -/

end State

/-- The level is requested or in service (R155). -/
def Level.Asked (lv : Level) : Prop := lv.latch.isSome = true ∨ lv.service.isSome = true

theorem Level.asked_raised (l : LevelId) (d : Word) (lv : Level) : (lv.raised l d).Asked := .inl rfl

theorem Level.Asked.elapse {lv : Level} (h : lv.Asked) (n : Nat) : (lv.elapse n).Asked :=
  h.imp id fun service => by simpa [Level.elapse] using service

theorem Level.Asked.returned {lv : Level} (h : lv.Asked) (l : LevelId) : (lv.returned l).Asked := by
  unfold Level.returned
  split
  · exact h
  · exact .inl rfl

namespace State

theorem levelSegment?_eq_some {l : LevelId} {g : SegId} (h : levelSegment? l = some g) : l = deviceLevel g := by
  unfold levelSegment? at h
  split at h
  · cases h
    apply Fin.ext
    simp only [deviceLevel]
    omega
  · cases h

theorem deviceLevel_ne_of_levelSegment? {l : LevelId} (h : levelSegment? l = none) (g : SegId) :
    deviceLevel g ≠ l := by
  rintro rfl
  simp at h

namespace ReportsServed
variable {c : SegCtl} {lv : Level}

/-- A level that is still asked for serves the queue as before. -/
theorem still (h : ReportsServed c lv) {lv' : Level} (asked : lv.Asked → lv'.Asked) : ReportsServed c lv' :=
  ⟨h.few, h.once, fun some => asked (h.served some), h.idle⟩

theorem silent {d : SegCtl} (none : d.attention = []) (lv : Level) : ReportsServed d lv :=
  ⟨by simp [none], by simp [none], fun some => absurd none some, fun _ => none⟩

theorem congr (h : ReportsServed c lv) {d : SegCtl} (attention : d.attention = c.attention)
    (state : d.state.carries = c.state.carries) : ReportsServed d lv := by
  obtain ⟨h1, h2, h3, h4⟩ := h
  exact ⟨by rwa [attention], by rwa [attention], by rwa [attention], by rwa [attention, state]⟩

theorem move (h : ReportsServed c lv) {d : SegCtl} (m : SegMove c d) : ReportsServed d lv := by
  cases m with
  | line | failures | risen | enqueue | withdraw | send | resolve | rewind => exact h.congr rfl rfl
  | probe synced fs idle => refine silent ?_ lv; exact h.idle idle
  | leave target lf idle none => refine silent ?_ lv; exact none
  | between target was idle => refine silent ?_ lv; exact h.idle was
  | answered tag n synced was => refine silent ?_ lv; exact h.idle (by rw [was]; rfl)
  | synced was => exact h.congr rfl (by rw [was]; rfl)

end ReportsServed

def ReportsEverywhere (s : State) : Prop := ∀ g, ReportsServed (s.seg g) (s.level (deviceLevel g))

namespace ReportsEverywhere
variable {s : State}

theorem setSeg (h : s.ReportsEverywhere) (g : SegId) {c : SegCtl}
    (kept : ReportsServed c (s.level (deviceLevel g))) : (s.setSeg g c).ReportsEverywhere := by
  intro m
  rw [seg_setSeg, setSeg_level]
  split
  · subst m; exact kept
  · exact h m

theorem still (h : s.ReportsEverywhere) {u : State} (sc : u.sc = s.sc)
    (asked : ∀ l, (s.level l).Asked → (u.level l).Asked) : u.ReportsEverywhere := by
  intro g
  rw [seg_eq_of_sc sc]
  exact (h g).still (asked _)

theorem setLevel (h : s.ReportsEverywhere) (l : LevelId) {lv : Level} (asked : (s.level l).Asked → lv.Asked) :
    (s.setLevel l lv).ReportsEverywhere := by
  refine h.still rfl fun m am => ?_
  rw [level_setLevel]
  split
  · subst m; exact asked am
  · exact am

theorem raise (h : s.ReportsEverywhere) (l : LevelId) (d : Word) : (s.raise l d).ReportsEverywhere :=
  h.setLevel l fun _ => Level.asked_raised l d _

theorem count (h : s.ReportsEverywhere) (i : Fin 49) (told : Bool) : (s.count i told).ReportsEverywhere := by
  refine h.still rfl fun l asked => ?_
  rcases level_count s i told l with same | raised
  · rwa [same]
  · rw [raised]; exact Level.asked_raised l 0 _

theorem placeResponse (h : s.ReportsEverywhere) (r : Response) : (s.placeResponse r).ReportsEverywhere :=
  count (s := { s with tp.tx := s.tp.tx ++ [.response r], tp.held := s.tp.held - 1 }) h _ _

theorem uncountEntry (h : s.ReportsEverywhere) (t : Tag) : (s.uncountEntry t).ReportsEverywhere := by
  unfold State.uncountEntry
  split
  · unfold countOut
    dsimp only
    split
    · refine raise ?_ _ _
      exact h
    · exact h
  · exact h

/-- A level that leaves service is asked for again when the served queue has a next head (R153). -/
theorem releaseLevel (h : s.ReportsEverywhere) (l : LevelId) : (s.releaseLevel l).ReportsEverywhere := by
  unfold State.releaseLevel
  dsimp only
  split
  case h_2 none =>
    intro g
    rw [setLevel_seg, level_setLevel_of_ne _ _ (deviceLevel_ne_of_levelSegment? none g)]
    exact h g
  case h_1 g found =>
    obtain rfl := levelSegment?_eq_some found
    have others : ∀ m, m ≠ g → deviceLevel m ≠ deviceLevel g := fun m ne eq => ne (deviceLevel_injective eq)
    have free : (s.seg g).attention = [] → ReportsEverywhere
        (s.setLevel (deviceLevel g) { s.level (deviceLevel g) with service := none }) := by
      intro none m
      by_cases same : m = g
      · subst m; exact .silent none _
      · rw [setLevel_seg, level_setLevel_of_ne _ _ (others m same)]
        exact h m
    unfold serveReports
    split
    case isFalse idle => exact free ((h g).idle (by simpa using idle))
    case isTrue carries =>
      split
      case h_1 none => exact free none
      case h_2 head rest some =>
        replace some : (s.seg g).attention = head :: rest := some
        have few := (h g).few
        have once := (h g).once
        rw [some] at few once
        intro m
        by_cases same : m = g
        case pos =>
          subst m
          cases rest with
          | nil => exact .silent (by simp [placeOnLine]) _
          | cons next more =>
            dsimp only
            rw [raise_seg, level_raise, if_pos rfl]
            refine ⟨?_, ?_, fun _ => Level.asked_raised _ _ _, fun idle => ?_⟩
            · simp only [placeOnLine, seg_setSeg_self]
              simp only [List.length_cons] at few ⊢
              omega
            · simpa [placeOnLine] using once.of_cons
            · simp only [placeOnLine, seg_setSeg_self] at idle
              exact absurd carries (by simpa using idle)
        case neg =>
          have kept := h m
          cases rest <;> dsimp only
          · simpa [placeOnLine, seg_setSeg_of_ne _ _ same, level_setLevel_of_ne _ _ (others m same)] using kept
          · simpa [placeOnLine, State.raise, seg_setSeg_of_ne _ _ same,
              level_setLevel_of_ne _ _ (others m same)] using kept

/-- A report joins a queue with room, and the first of a queue raises its level (R155). -/
theorem takeReport (h : s.ReportsEverywhere) (g : SegId) (source : Byte) (carries : (s.seg g).state.carries = true) :
    (s.takeReport g source).ReportsEverywhere := by
  unfold State.takeReport
  dsimp only
  split
  · exact h
  rename_i new
  split
  case isFalse => exact h.count _ _
  case isTrue room =>
    refine count ?_ _ _
    have few : ((s.seg g).attention ++ [source]).length ≤ Config.attentionCapacity := by simpa using room
    have once : ((s.seg g).attention ++ [source]).Nodup := by
      simpa [List.nodup_append] using ⟨(h g).once, fun a on eq => new (eq ▸ on)⟩
    intro m
    by_cases same : m = g
    case pos =>
      subst m
      split
      · rw [raise_seg, seg_setSeg_self, level_raise, if_pos rfl]
        exact ⟨few, once, fun _ => Level.asked_raised _ _ _, fun idle => absurd carries (by simpa using idle)⟩
      · rename_i some
        rw [seg_setSeg_self]
        exact ⟨few, once, fun _ => (h g).served (by simpa using some),
          fun idle => absurd carries (by simpa using idle)⟩
    case neg =>
      have apart : deviceLevel m ≠ deviceLevel g := fun eq => same (deviceLevel_injective eq)
      split
      · rw [raise_seg, seg_setSeg_of_ne _ _ same, level_raise, if_neg apart]
        exact h m
      · rw [seg_setSeg_of_ne _ _ same]
        exact h m

theorem keeps : Keeps ReportsEverywhere where
  seg g _ m h := h.setSeg g ((h g).move m)
  entry _ _ _ _ _ h := h
  count i told h := h.count i told
  raise l d h := h.raise l d
  answer t r _ h := (h.placeResponse r).uncountEntry t
  drop t _ h := uncountEntry (s := State.releaseHold _) h t
  dropReports {s} g h m := by
    by_cases same : m = g
    · subst m; exact .silent (by simp [State.dropReports]) _
    · have apart : deviceLevel m ≠ deviceLevel g := fun eq => same (deviceLevel_injective eq)
      rw [State.dropReports, level_setLevel_of_ne _ _ apart, setLevel_seg, seg_setSeg_of_ne _ _ same]
      exact h m
  deliver told l _ _ _ _ h := by
    unfold State.deliver
    refine count ?_ _ told
    exact h.setLevel l fun _ => .inr rfl
  resend l _ _ _ h := by
    unfold State.resend
    refine count ?_ _ false
    exact h.setLevel l fun _ => .inr rfl
  deadline l v e _ h := h.setLevel l fun _ => .inr rfl

theorem steps : Steps ReportsEverywhere ReportsEverywhere where
  p := keeps
  q := keeps
  take _ _ h := h
  answer r h := h.placeResponse r
  openData _ _ _ _ _ _ h := h
  openFlush _ _ _ h := h
  shadow _ _ _ _ h := h
  config g _ _ _ _ _ _ _ h := h.setSeg g ((h g).congr rfl rfl)
  masks _ h := h.still rfl fun l asked => by simpa [level, Level.Asked] using asked
  interval _ _ h := h
  readClear _ h := h
  swap _ _ h := by
    unfold swapBanks
    dsimp only
    split
    · refine raise ?_ _ _
      exact h
    · exact h
  copy _ h := h
  release l _ _ h := h.releaseLevel l
  waits h := h
  report g source carries h := h.takeReport g source carries
  pins _ _ _ h := h
  elapse n h g := by
    rw [seg_elapse, level_elapse]
    exact ((h g).still fun asked => asked.elapse n).congr rfl (SegState.elapse_carries ..)
  up _ h := h
  down h := h
  returned h := h.still rfl fun l asked => by
    rw [level_attentionLoss]
    exact asked.returned l
  reset _ g := by
    rw [seg_applyManagementReset]
    exact .silent rfl _
  arrives _ _ _ h := h
  sent _ _ _ h := h
  fresh _ _ g := by
    have none : (State.reset.seg g).attention = [] := by rw [seg_reset]; rfl
    exact .silent none _
  queue _ h := h

end ReportsEverywhere
end State

/-- Settles O59: the slots and the reports are kept apart, each by every small change of a step. -/
theorem stepKeepsSegments : Obligations.StepKeepsSegments := by
  intro s t h e g
  exact ⟨State.SlotsEverywhere.steps.step e (fun g => (h g).1) g,
    State.ReportsEverywhere.steps.step e (fun g => (h g).2) g⟩

end Sys2Proof.Machine
end

section

/-! The state after power-on reset: its values (R19, R33, R60, R139, R162, R164, R203) and its invariants. -/

namespace Sys2Proof.Machine

theorem State.record_reset (which : Bank) (w : WindowId) : State.reset.wb.record which w = .zero := by
  cases which <;> simp [WindowBanks.record, WindowBanks.bank, State.reset, WindowBanks.reset]

theorem State.lookup_reset (address : Word) : State.reset.wb.lookup address = none := by
  refine List.findSome?_eq_none_iff.2 fun w _ => ?_
  rw [State.record_reset, Option.map_eq_none_iff]
  rfl

/-- Settles O5: the reset values, field by field. -/
theorem resetValues : Obligations.ResetValues := by
  refine ⟨rfl, rfl, rfl, rfl, rfl, rfl, rfl, rfl, rfl, rfl, rfl, State.record_reset, by decide, State.lookup_reset,
    State.entry_reset, fun g => ?_, State.level_reset, rfl, rfl, fun i => ⟨State.counter_reset i, ?_⟩, rfl⟩
  · rw [State.seg_reset]
    exact ⟨rfl, rfl, rfl, rfl, rfl, rfl, rfl, rfl, rfl, rfl⟩
  · simp [State.reset, ControlBlock.reset]

namespace State

theorem leg?_eq_none {s : State} {r : LegRef} (none : ∀ d, s.entry r.entry ≠ .data d) : s.leg? r = Option.none := by
  unfold leg?
  split
  · exact absurd ‹_› (none _)
  · rfl

/-- With no open entry and no leg in any list nothing can be out of its place. -/
theorem LegsPlaced.empty {s : State} (free : ∀ t, s.entry t = .free)
    (none : ∀ g, (s.seg g).queue = [] ∧ (s.seg g).sent = []) : s.LegsPlaced where
  queued g r m := by simp [(none g).1] at m
  sent g x m := by simp [(none g).2] at m
  once g := by simp [none g]
  all r d l e := by
    have := leg?_eq_none (s := s) (r := r) fun d => by simp [free]
    simp [this] at e

theorem Withdrawn.empty {s : State} (free : ∀ t, s.entry t = .free) : s.Withdrawn :=
  fun t d e => by simp [free] at e

end State

/-- Settles O56: nothing is open, queued, requested or full. -/
theorem resetSatisfiesInvariants : Obligations.ResetSatisfiesInvariants := by
  obtain ⟨saturation, active, config⟩ := State.TablesKept.reset
  obtain ⟨places, inflight, barriers⟩ : State.EntriesKept 0 State.reset :=
    .empty State.entry_reset rfl rfl rfl fun which => by cases which <;> rfl
  refine ⟨saturation, active, config, fun g => ?_, fun g => ?_, places, inflight, barriers,
    .empty State.entry_reset fun g => ?_, .empty State.entry_reset⟩
  · rw [State.seg_reset]; exact .empty rfl rfl
  · rw [State.seg_reset]; exact .silent rfl _
  · rw [State.seg_reset]; exact ⟨rfl, rfl⟩

end Sys2Proof.Machine
end

section

/-! Steps, time and the input pins (R164, R180). -/

namespace Sys2Proof.Machine

/-- Settles O1. -/
theorem stepRunsFrontCommand : Obligations.StepRunsFrontCommand := fun _ _ => rfl

/-! ## PORN and the clock -/

namespace State
variable {s : State}

theorem live_eq_true (released : s.pins.porn = false) : s.live = true := by simp [live, released]

theorem live_eq_false (asserted : s.pins.porn = true) : s.live = false := by simp [live, asserted]

theorem tick_of_held (held : s.pins.porn = true ∨ s.pins.refclk = false) : s.tick = s := by
  rcases held with held | held <;> simp [tick, live, held]

theorem tick_of_runs (released : s.pins.porn = false) (clock : s.pins.refclk = true) : s.tick = s.elapse 1 := by
  simp [tick, live, released, clock]

/-- Without the clock time left on a timer cannot pass. -/
theorem runOut?_eq_none (noClock : s.pins.refclk = false) {n : Nat} (left : n ≠ 0) : s.runOut? n = none := by
  simp [runOut?, left, noClock]

theorem takeFrame_of_porn (asserted : s.pins.porn = true) (row : TakenRow) (owner : State → RxFrame → State) :
    s.takeFrame row owner = s := by
  unfold takeFrame
  split
  · simp [mayTake, live_eq_false asserted]
  · rfl

end State

theorem step_of_empty {s : State} (empty : s.pending = []) : step s = .next s.tick := by
  simp only [step, empty]

/-- R180: while PORN is asserted no command but one of the pins does anything. -/
theorem exec_of_porn {s : State} (asserted : s.pins.porn = true) {c : Instr} (other : ¬ PinCommand c) :
    exec c s = .next s := by
  have held := State.live_eq_false asserted
  have taken := State.takeFrame_of_porn asserted
  cases c with
  | pornAsserted => exact absurd .pornAsserted other
  | pornReleased => exact absurd .pornReleased other
  | refclkLost => exact absurd .refclkLost other
  | refclkRestored => exact absurd .refclkRestored other
  | receiverLockAcquired => exact absurd .lockAcquired other
  | receiverLockLost what => exact absurd (.lockLost what) other
  | malformedFrame | read | write | flush | cancel | shadowWindowWrite | segmentConfigWrite | maskSetWrite
  | resendIntervalWrite | cwrite | counterReadAndClear | commit | copyActive | segmentStart | segmentStop
  | segmentSynced | segmentReset | managementReset | unknownCommandCode | release =>
    exact congrArg Host.Outcome.next (taken _ _)
  | linkQualified => simp [exec, execLinkQualified, held]
  | trunkLoss => simp [exec, execTrunkLoss, held]
  | frameReceived words => simp [exec, execFrameReceived, held]
  | frameSent =>
    simp only [exec, execFrameSent, held]
    split <;> rfl
  | managementResetTakesEffect => simp [exec, execManagementResetTakesEffect, held]
  | sendLeg g =>
    simp only [exec, execSendLeg, held]
    split <;> rfl
  | failoverWaitServed g => simp [exec, execFailoverWaitServed, held]
  | legDone g tag data => simp [exec, execLegDone, held]
  | legRefused g tag code => simp [exec, execLegRefused, held]
  | probeReply g tag => simp [exec, execProbeReply, held]
  | attnReport g source => simp [exec, execAttnReport, held]
  | corruptFrame g words => simp [exec, execCorruptFrame, held]
  | legTimerExpiry g tag => simp [exec, execLegTimerExpiry, held]
  | probeTimeout g => simp [exec, execProbeTimeout, held]
  | lineResetExpiry g => simp [exec, execLineResetExpiry, held]
  | attentionDelivery => simp [exec, execAttentionDelivery, held]
  | resendDeadlineExpiry level => simp [exec, execResendDeadlineExpiry, held]
  | deferredResend => simp [exec, execDeferredResend, held]

/-- The pins once the receiver has lost something. -/
def Pins.lose (p : Pins) : ReceiverLoss → Pins
  | .signal => { p with signal := false }
  | .lock => { p with lock := false }
  | .idlePattern => { p with idle := false }

theorem Pins.lose_porn (p : Pins) (what : ReceiverLoss) : (p.lose what).porn = p.porn := by cases what <;> rfl

theorem exec_receiverLockLost_of_held {p : Pins} (asserted : p.porn = true) (q : List Instr) (what : ReceiverLoss) :
    exec (.receiverLockLost what) { State.reset with pins := p, pending := q } =
      .next { State.reset with pins := p.lose what, pending := q } := by
  cases what <;> simp [exec, execReceiverLockLost, State.live, asserted, State.reset, TrunkPort.reset, Pins.lose]

/-- The pins go on changing under PORN, and nothing else does (R180). -/
theorem exec_of_held {p : Pins} (asserted : p.porn = true) (q : List Instr) {c : Instr} (notReleased : c ≠ .pornReleased) :
    ∃ p' : Pins, p'.porn = true ∧
      exec c { State.reset with pins := p, pending := q } = .next { State.reset with pins := p', pending := q } := by
  by_cases pin : PinCommand c
  case neg => exact ⟨p, asserted, exec_of_porn asserted pin⟩
  case pos =>
    cases pin with
    | pornAsserted => exact ⟨{ p with porn := true }, rfl, rfl⟩
    | pornReleased => exact absurd rfl notReleased
    | refclkLost => exact ⟨{ p with refclk := false }, asserted, rfl⟩
    | refclkRestored => exact ⟨{ p with refclk := true }, asserted, rfl⟩
    | lockAcquired =>
      by_cases quiet : p.quiet = true
      · exact ⟨p, asserted, by simp [exec, execReceiverLockAcquired, quiet]⟩
      · refine ⟨{ p with signal := true, lock := true, idle := true }, asserted, ?_⟩
        simp [exec, execReceiverLockAcquired, quiet, State.live, asserted, State.reset, TrunkPort.reset]
    | lockLost what => exact ⟨_, (p.lose_porn what).trans asserted, exec_receiverLockLost_of_held asserted q what⟩

theorem Pins.quiet_iff (p : Pins) : p.quiet = true ↔ p.signal = true ∧ p.lock = true ∧ p.idle = true := by
  simp [Pins.quiet, and_assoc]

theorem exec_pornReleased_of_porn {s : State} (asserted : s.pins.porn = true) : exec .pornReleased s = .next { s with
    pins.porn := false
    tp.qualifying := if s.pins.signal = true ∧ s.pins.lock = true ∧ s.pins.idle = true then some 100 else none } := by
  simp [exec, execPornReleased, asserted, Pins.quiet_iff, Config.qualifyingTime]

section
variable {s : State} (noClock : s.pins.refclk = false)
include noClock

/-! Without the clock no timer with time left expires. -/

theorem exec_linkQualified_of_noClock {n : Nat} (left : s.tp.qualifying = some n) (some : n ≠ 0) :
    exec .linkQualified s = .next s := by
  simp only [exec, execLinkQualified, left]
  split <;> simp_all [State.runOut?_eq_none]

theorem exec_trunkLoss_of_noClock {n : Nat} (left : s.tp.loss = some n) (some : n ≠ 0) :
    exec .trunkLoss s = .next s := by
  simp only [exec, execTrunkLoss, left]
  split <;> simp_all [State.runOut?_eq_none]

theorem exec_legTimerExpiry_of_noClock {g : SegId} {tag : LegTag} {x : SentLeg}
    (sent : (s.seg g).sentUnder? tag = some x) (left : x.timer ≠ 0) : exec (.legTimerExpiry g tag) s = .next s := by
  simp only [exec, execLegTimerExpiry, sent]
  split <;> simp_all [State.runOut?_eq_none]

theorem exec_probeTimeout_of_noClock {g : SegId} {tag : LegTag} {n : Nat} {y : Bool}
    (state : (s.seg g).state = .probing tag n y) (left : n ≠ 0) : exec (.probeTimeout g) s = .next s := by
  simp only [exec, execProbeTimeout, state]
  split <;> simp_all [State.runOut?_eq_none]

theorem exec_lineResetExpiry_of_noClock {g : SegId} {n : Nat} (state : (s.seg g).state = .resetting n)
    (left : n ≠ 0) : exec (.lineResetExpiry g) s = .next s := by
  simp only [exec, execLineResetExpiry, state]
  split <;> simp_all [State.runOut?_eq_none]

theorem exec_resendDeadlineExpiry_of_noClock {l : LevelId} {v : Service} {n : Nat}
    (service : (s.level l).service = some v) (running : v.deadline = .running n) (left : n ≠ 0) :
    exec (.resendDeadlineExpiry l) s = .next s := by
  simp only [exec, execResendDeadlineExpiry, service, Option.map_some, running]
  split <;> simp_all [State.runOut?_eq_none]

end

/-- Settles O4: PORN's own three commands, the pins that change under it, and each timer without the clock. -/
theorem powerOnResetAndClock : Obligations.PowerOnResetAndClock := by
  refine ⟨fun s => rfl, fun p q c asserted => exec_of_held asserted q, fun p asserted => ?held,
    fun g => ?reset, fun p q asserted => ?released, fun s notAsserted => ?stays, fun s => rfl, fun s => rfl,
    fun s empty released clock => ?tick, fun s noClock => ⟨fun empty => ?noTick,
      fun n => exec_linkQualified_of_noClock noClock, fun n => exec_trunkLoss_of_noClock noClock,
      fun g tag x => exec_legTimerExpiry_of_noClock noClock, fun g tag n y => exec_probeTimeout_of_noClock noClock,
      fun g n => exec_lineResetExpiry_of_noClock noClock,
      fun l v n => exec_resendDeadlineExpiry_of_noClock noClock⟩⟩
  case held => exact congrArg Host.Outcome.next (State.tick_of_held (.inl asserted))
  case reset => rw [State.seg_reset]; exact ⟨rfl, rfl⟩
  case released => exact exec_pornReleased_of_porn (s := { State.reset with pins := p, pending := q }) asserted
  case stays => simp [exec, execPornReleased, notAsserted]
  case tick => rw [step_of_empty empty, State.tick_of_runs released clock]
  case noTick => rw [step_of_empty empty, State.tick_of_held (.inr noClock)]

/-- Settles O2: one tick is one µs for every timer. -/
theorem emptyQueueTicks : Obligations.EmptyQueueTicks := by
  refine fun s empty => ⟨fun held => ?_, fun released clock => ⟨s.elapse 1, ?_, rfl, rfl, rfl, rfl, empty, rfl, rfl,
    fun l => ?_, fun g => ?_⟩⟩
  · rw [step_of_empty empty, State.tick_of_held held]
  · rw [step_of_empty empty, State.tick_of_runs released clock]
  · rw [State.level_elapse]
    rfl
  · rw [State.seg_elapse]
    rfl

/-! ## The receiver's pins -/

/-- Settles O6: the receiver's two commands, by the link state. -/
theorem receiverPins : Obligations.ReceiverPins := by
  refine ⟨fun s signal lock idle => ?_, fun s missing released => ?_, fun s what released => ?_⟩
  · simp [exec, execReceiverLockAcquired, Pins.quiet, signal, lock, idle]
  · have notQuiet : s.pins.quiet ≠ true := fun quiet => missing (s.pins.quiet_iff.1 quiet)
    cases link : s.tp.link <;>
      simp [exec, execReceiverLockAcquired, notQuiet, State.live_eq_true released, link, Config.qualifyingTime]
  · simp [exec, execReceiverLockLost, State.live_eq_true released, Config.lossTime, and_assoc] <;> rfl

end Sys2Proof.Machine
end

section

/-! What no shared operation touches, and with it the statement that every command completes. -/

namespace Sys2Proof.Machine

/-- The parts of the state that none of the changes of `Keeps` touches. -/
def State.outside (s : State) :=
  (s.pins, s.pending, s.cb.resetWaiting, s.tp.link, s.tp.qualifying, s.tp.loss, s.tp.rx, s.tp.wire, s.au.interval,
    s.wb.bankA, s.wb.bankB, s.wb.active, s.wb.generation)

/-- `u` agrees with `s` on those parts. -/
def State.SameOutside (s u : State) : Prop := u.outside = s.outside

namespace State.SameOutside
variable {s u : State}

section
variable (same : s.SameOutside u)
include same

theorem pins : u.pins = s.pins := congrArg (·.1) same
theorem pending : u.pending = s.pending := congrArg (·.2.1) same
theorem resetWaiting : u.cb.resetWaiting = s.cb.resetWaiting := congrArg (·.2.2.1) same
theorem link : u.tp.link = s.tp.link := congrArg (·.2.2.2.1) same
theorem qualifying : u.tp.qualifying = s.tp.qualifying := congrArg (·.2.2.2.2.1) same
theorem loss : u.tp.loss = s.tp.loss := congrArg (·.2.2.2.2.2.1) same
theorem rx : u.tp.rx = s.tp.rx := congrArg (·.2.2.2.2.2.2.1) same
theorem wire : u.tp.wire = s.tp.wire := congrArg (·.2.2.2.2.2.2.2.1) same
theorem interval : u.au.interval = s.au.interval := congrArg (·.2.2.2.2.2.2.2.2.1) same
theorem bankA : u.wb.bankA = s.wb.bankA := congrArg (·.2.2.2.2.2.2.2.2.2.1) same
theorem bankB : u.wb.bankB = s.wb.bankB := congrArg (·.2.2.2.2.2.2.2.2.2.2.1) same
theorem active : u.wb.active = s.wb.active := congrArg (·.2.2.2.2.2.2.2.2.2.2.2.1) same
theorem generation : u.wb.generation = s.wb.generation := congrArg (·.2.2.2.2.2.2.2.2.2.2.2.2) same

theorem record (which : Bank) (w : WindowId) : u.wb.record which w = s.wb.record which w := by
  have a := bankA same
  have b := bankB same
  cases which <;> simp only [WindowBanks.record, WindowBanks.bank, a, b]

theorem windowOf (d : DataEntry) : u.windowOf d = s.windowOf d := record same d.bank d.window

/-- Beside the in-flight counts nothing of the Window Banks has changed. -/
theorem wb : u.wb = { s.wb with inflightA := u.wb.inflightA, inflightB := u.wb.inflightB } := by
  have a := bankA same
  have b := bankB same
  have c := active same
  have d := generation same
  simp only [← a, ← b, ← c, ← d]

end

theorem uncountEntry (s : State) (t : Tag) : s.SameOutside (s.uncountEntry t) := by
  unfold State.uncountEntry countOut
  split
  · rename_i d _
    dsimp only
    cases d.bank <;> split <;> rfl
  · rfl

theorem keeps (x : State) : Keeps (SameOutside x) where
  seg _ _ _ h := h
  entry _ _ _ _ _ h := h
  count _ _ h := h
  raise _ _ h := h
  answer {s} t r _ h := (uncountEntry (s.placeResponse r) t).trans h
  drop {s} t _ h := (uncountEntry s.releaseHold t).trans h
  dropReports _ h := h
  deliver _ _ _ _ _ _ h := h
  resend _ _ _ _ h := h
  deadline _ _ _ _ h := h

end State.SameOutside

/-! ## The queue of commands -/

namespace State
variable {s : State}

theorem finish_sameOutside (s before : State) : s.SameOutside (s.finish before) :=
  (SameOutside.keeps s).finish before rfl

theorem foldl_pending {α : Type} {f : State → α → State} (keeps : ∀ s a, (f s a).pending = s.pending) (as : List α)
    (s : State) : (as.foldl f s).pending = s.pending := by
  induction as generalizing s with
  | nil => rfl
  | cons a as ih => rw [List.foldl_cons, ih, keeps]

theorem takeFrame_pending {owner : State → RxFrame → State} (keeps : ∀ s f, (owner s f).pending = s.pending)
    (s : State) (row : TakenRow) : (s.takeFrame row owner).pending = s.pending := by
  unfold takeFrame
  split
  · split
    · rw [(finish_sameOutside ..).pending, keeps]
    · rfl
  · rfl

theorem withFreeTag_pending {go : State → State} (keeps : ∀ s, (go s).pending = s.pending) (s : State) (f : RxFrame) :
    (s.withFreeTag f go).pending = s.pending := by
  unfold withFreeTag
  split
  · rfl
  · exact keeps s

theorem createLegs_pending (s : State) (t : Tag) (g : SegId) : (s.createLegs t g).pending = s.pending := by
  unfold createLegs
  split <;> rfl

theorem admitRequest_pending (isWrite : Bool) (s : State) (f : RxFrame) :
    (s.admitRequest isWrite f).pending = s.pending := by
  unfold admitRequest
  split
  · unfold refuseRequest
    dsimp only
    split <;> rfl
  · exact foldl_pending (fun s g => createLegs_pending s f.tag g) _ _

theorem takeFlush_pending (s : State) (f : RxFrame) : (s.takeFlush f).pending = s.pending := by
  unfold takeFlush
  split
  · rfl
  · split <;> rfl

theorem takeCancel_pending (s : State) (f : RxFrame) : (s.takeCancel f).pending = s.pending := by
  unfold takeCancel
  split
  · rfl
  · rename_i barrier _ e
    have freed := (SameOutside.keeps s).answerEntry f.tag (flushResponse f.tag .cancelled barrier.length)
      (by simp [tagInUse, e, Entry.isOpen]) rfl
    exact freed.pending
  · split
    · exact (Steps.cancelPending (SameOutside.keeps s) f.tag rfl).pending
    · rfl
    · rfl

theorem writeObject_pending (s : State) (x : Word) (o : ControlObject) : (s.writeObject x o).pending = s.pending := by
  cases o <;> rfl

theorem readEffect_pending (s : State) (o : ControlObject) : (s.readEffect o).pending = s.pending := by
  cases o <;> rfl

theorem takeCwrite_pending (s : State) (f : RxFrame) : (s.takeCwrite f).pending = s.pending := by
  refine withFreeTag_pending (fun s => ?_) s f
  split
  · split
    · rfl
    · exact foldl_pending (fun s (ox : ControlObject × Word) => writeObject_pending s ox.2 ox.1) _ s
  · rfl

theorem takeCread_pending (s : State) (f : RxFrame) : (s.takeCread f).pending = s.pending := by
  refine withFreeTag_pending (fun s => ?_) s f
  split
  · split
    · rfl
    · exact foldl_pending readEffect_pending _ s
  · rfl

theorem takeCommit_pending (s : State) (f : RxFrame) : (s.takeCommit f).pending = s.pending := by
  refine withFreeTag_pending (fun s => ?_) s f
  split
  · rfl
  · split
    · rfl
    · exact swapBanks_pending s

theorem takeCopyActive_pending (s : State) (f : RxFrame) : (s.takeCopyActive f).pending = s.pending := by
  refine withFreeTag_pending (fun s => ?_) s f
  split <;> rfl

theorem segmentCommand_pending {effect : State → State} (keeps : ∀ s, (effect s).pending = s.pending) (s : State)
    (f : RxFrame) (allowed : SegState → Bool) : (s.segmentCommand f allowed effect).pending = s.pending := by
  refine withFreeTag_pending (fun s => ?_) s f
  dsimp only
  split
  · exact keeps s
  · rfl

theorem leaveFor_sameOutside (s : State) (g : SegId) {target : SegState} (idle : target.carries = false)
    (reason : FailureReason) : s.SameOutside (s.leaveFor g target reason) :=
  (SameOutside.keeps s).leaveFor g target reason idle rfl

theorem takeStart_pending (s : State) (f : RxFrame) : (s.takeStart f).pending = s.pending :=
  segmentCommand_pending (effect := fun s => s.startSegment f.operandSegment f.operandSynced) (fun _ => rfl) s f _

theorem takeStop_pending (s : State) (f : RxFrame) : (s.takeStop f).pending = s.pending :=
  segmentCommand_pending (fun s => (s.leaveFor_sameOutside f.operandSegment rfl .segmentStopped).pending) s f _

theorem takeSynced_pending (s : State) (f : RxFrame) : (s.takeSynced f).pending = s.pending :=
  segmentCommand_pending (effect := fun s => s.syncSegment f.operandSegment) (fun _ => rfl) s f _

theorem takeReset_pending (s : State) (f : RxFrame) : (s.takeReset f).pending = s.pending :=
  segmentCommand_pending (fun s => (s.leaveFor_sameOutside f.operandSegment rfl .segmentStopped).pending) s f _

theorem takeManagementReset_pending (s : State) (f : RxFrame) : (s.takeManagementReset f).pending = s.pending := by
  unfold takeManagementReset withFreeTag
  split <;> rfl

theorem takeUnknownCommand_pending (s : State) (f : RxFrame) : (s.takeUnknownCommand f).pending = s.pending := by
  unfold takeUnknownCommand withFreeTag
  split <;> rfl

theorem takeRelease_pending (s : State) (f : RxFrame) : (s.takeRelease f).pending = s.pending := by
  refine withFreeTag_pending (fun s => ?_) s f
  split
  · rfl
  · split
    · split
      · unfold releaseLevel serveReports
        dsimp only
        repeat' split
        all_goals rfl
      · rfl
    · rfl

theorem loseTrunk_pending (s : State) : s.loseTrunk.pending = s.pending := by
  have lost := (SameOutside.keeps _).transitLoss (s := { s with
    tp.link := .down, tp.loss := none, tp.qualifying := none, tp.rx := [], tp.tx := [] }) rfl
  unfold loseTrunk
  dsimp only
  split <;> exact lost.pending

theorem receive_pending (s : State) (words : List Word) : (s.receive words).pending = s.pending := by
  unfold receive
  dsimp only
  repeat' split
  all_goals rfl

theorem takeAttnReport_pending (s : State) (g : SegId) (source : Byte) :
    (s.takeAttnReport g source).pending = s.pending := by
  unfold takeAttnReport takeReport
  dsimp only
  repeat' split
  all_goals rfl

theorem takeUpstream_pending (s : State) (g : SegId) (words : List Word) :
    (s.takeUpstream g words).pending = s.pending := by
  have keeps := SameOutside.keeps s
  unfold takeUpstream
  split
  · rfl
  · exact (keeps.takeLegDone g _ _ rfl).pending
  · exact (keeps.takeLegRefused g _ _ rfl).pending
  · exact (keeps.takeProbeReply g _ rfl).pending
  · exact takeAttnReport_pending s g _

theorem runOut?_cases {n : Nat} {u : State} (ran : s.runOut? n = some u) : u = s ∨ u = s.elapse n := by
  unfold runOut? at ran
  split at ran
  · exact .inl (Option.some.inj ran).symm
  · split at ran
    · exact .inr (Option.some.inj ran).symm
    · cases ran

theorem runOut?_pending {n : Nat} {u : State} (ran : s.runOut? n = some u) : u.pending = s.pending := by
  rcases runOut?_cases ran with rfl | rfl <;> rfl

/-- A command that acts only while the part operates, and then ends its step. -/
theorem live_pending {u : State} (same : u.pending = s.pending) :
    (if s.live then u.finish s else s).pending = s.pending := by
  split
  · rw [(finish_sameOutside ..).pending, same]
  · rfl

end State

/-- Settles O3: every meaning answers with a next state, and none writes the queue. -/
theorem everyCommandCompletes : Obligations.EveryCommandCompletes := by
  intro c s
  have keeps := State.SameOutside.keeps s
  cases c with
  | pornAsserted => exact ⟨_, rfl, rfl⟩
  | pornReleased =>
    refine ⟨_, rfl, ?_⟩
    split <;> rfl
  | refclkLost => exact ⟨_, rfl, rfl⟩
  | refclkRestored => exact ⟨_, rfl, rfl⟩
  | receiverLockAcquired =>
    refine ⟨_, rfl, ?_⟩
    split <;> rfl
  | receiverLockLost what => exact ⟨_, rfl, rfl⟩
  | linkQualified =>
    refine ⟨_, rfl, ?_⟩
    split
    · split
      · rename_i u ran
        rw [(State.finish_sameOutside ..).pending]
        exact (State.runOut?_pending ran : u.pending = s.pending)
      · rfl
    · rfl
  | trunkLoss =>
    refine ⟨_, rfl, ?_⟩
    split
    · split
      · rename_i u ran
        rw [(State.finish_sameOutside ..).pending, State.loseTrunk_pending, State.runOut?_pending ran]
      · rfl
    · rfl
  | legTimerExpiry g tag =>
    refine ⟨_, rfl, ?_⟩
    split
    · split
      · rename_i u ran
        rw [(State.finish_sameOutside ..).pending, ((State.SameOutside.keeps u).legExpired g _ rfl).pending,
          State.runOut?_pending ran]
      · rfl
    · rfl
  | probeTimeout g =>
    refine ⟨_, rfl, ?_⟩
    split
    · rename_i n synced _ state
      split
      · rename_i u ran
        have idle : (u.seg g).state.carries = false := by rw [Steps.runOut_carries ran, state]; rfl
        rw [(State.finish_sameOutside ..).pending,
          ((State.SameOutside.keeps u).probeExpired g synced idle rfl).pending, State.runOut?_pending ran]
      · rfl
    · rfl
  | lineResetExpiry g =>
    refine ⟨_, rfl, ?_⟩
    split
    · split
      · rename_i u ran
        rw [(State.finish_sameOutside ..).pending]
        exact (State.runOut?_pending ran : u.pending = s.pending)
      · rfl
    · rfl
  | resendDeadlineExpiry l =>
    refine ⟨_, rfl, ?_⟩
    split
    · split
      · rename_i u ran
        split
        · rename_i v service
          rw [(State.finish_sameOutside ..).pending,
            ((State.SameOutside.keeps u).resendExpired l v service rfl).pending, State.runOut?_pending ran]
        · exact State.runOut?_pending ran
      · rfl
    · rfl
  | frameReceived words =>
    refine ⟨_, rfl, ?_⟩
    split
    · rw [(State.finish_sameOutside ..).pending, State.receive_pending]
    · rfl
  | malformedFrame => exact ⟨_, rfl, State.takeFrame_pending (owner := State.answerMalformed) (fun _ _ => rfl) s _⟩
  | read => exact ⟨_, rfl, State.takeFrame_pending (State.admitRequest_pending false) s _⟩
  | write => exact ⟨_, rfl, State.takeFrame_pending (State.admitRequest_pending true) s _⟩
  | flush => exact ⟨_, rfl, State.takeFrame_pending State.takeFlush_pending s _⟩
  | cancel => exact ⟨_, rfl, State.takeFrame_pending State.takeCancel_pending s _⟩
  | shadowWindowWrite => exact ⟨_, rfl, State.takeFrame_pending State.takeCwrite_pending s _⟩
  | segmentConfigWrite => exact ⟨_, rfl, State.takeFrame_pending State.takeCwrite_pending s _⟩
  | maskSetWrite => exact ⟨_, rfl, State.takeFrame_pending State.takeCwrite_pending s _⟩
  | resendIntervalWrite => exact ⟨_, rfl, State.takeFrame_pending State.takeCwrite_pending s _⟩
  | cwrite => exact ⟨_, rfl, State.takeFrame_pending State.takeCwrite_pending s _⟩
  | counterReadAndClear => exact ⟨_, rfl, State.takeFrame_pending State.takeCread_pending s _⟩
  | commit => exact ⟨_, rfl, State.takeFrame_pending State.takeCommit_pending s _⟩
  | copyActive => exact ⟨_, rfl, State.takeFrame_pending State.takeCopyActive_pending s _⟩
  | segmentStart => exact ⟨_, rfl, State.takeFrame_pending State.takeStart_pending s _⟩
  | segmentStop => exact ⟨_, rfl, State.takeFrame_pending State.takeStop_pending s _⟩
  | segmentSynced => exact ⟨_, rfl, State.takeFrame_pending State.takeSynced_pending s _⟩
  | segmentReset => exact ⟨_, rfl, State.takeFrame_pending State.takeReset_pending s _⟩
  | managementReset => exact ⟨_, rfl, State.takeFrame_pending State.takeManagementReset_pending s _⟩
  | unknownCommandCode => exact ⟨_, rfl, State.takeFrame_pending State.takeUnknownCommand_pending s _⟩
  | release => exact ⟨_, rfl, State.takeFrame_pending State.takeRelease_pending s _⟩
  | frameSent =>
    refine ⟨_, rfl, ?_⟩
    split
    · split
      · rw [(State.finish_sameOutside ..).pending]
        split <;> rfl
      · rfl
    · rfl
  | managementResetTakesEffect =>
    refine ⟨_, rfl, ?_⟩
    split
    · split
      · exact (State.finish_sameOutside ..).pending
      · exact (State.finish_sameOutside ..).pending
      · rfl
    · rfl
  | sendLeg g =>
    refine ⟨_, rfl, ?_⟩
    split
    · split
      · rename_i r rest head may
        simp only [Bool.and_eq_true] at may
        rw [(State.finish_sameOutside ..).pending]
        exact (keeps.sendHead g r rest head may.2 rfl).pending
      · rfl
    · rfl
  | failoverWaitServed g => exact ⟨_, rfl, State.live_pending (keeps.offerRise g rfl).pending⟩
  | legDone g tag data => exact ⟨_, rfl, State.live_pending (keeps.takeLegDone g tag data rfl).pending⟩
  | legRefused g tag code => exact ⟨_, rfl, State.live_pending (keeps.takeLegRefused g tag code rfl).pending⟩
  | probeReply g tag => exact ⟨_, rfl, State.live_pending (keeps.takeProbeReply g tag rfl).pending⟩
  | attnReport g source => exact ⟨_, rfl, State.live_pending (State.takeAttnReport_pending s g source)⟩
  | corruptFrame g words => exact ⟨_, rfl, State.live_pending (State.takeUpstream_pending s g words)⟩
  | attentionDelivery => exact ⟨_, rfl, State.live_pending rfl⟩
  | deferredResend => exact ⟨_, rfl, State.live_pending rfl⟩

end Sys2Proof.Machine
end

section

/-! The Trunk Port: link, loss, reception, sending, and the waiting management reset (Chapter 9, R192, R193). -/

namespace Sys2Proof.Machine

theorem Link.eq_down_of_ne {l : Link} (ne : l ≠ .up) : l = .down := by
  cases l
  · rfl
  · exact absurd rfl ne

/-- After a management reset no level is requested and none is in service, so nothing is placed (R161). -/
theorem finish_applyManagementReset (s before : State) :
    s.applyManagementReset.finish before = s.applyManagementReset := by
  refine finish_quiet ⟨?_, fun l v service => ?_⟩ before
  · refine List.find?_eq_none.2 fun l _ => ?_
    simp [State.deliverable, State.requested]
  · simp at service

/-! ## Link state -/

/-- Settles O7: the qualifying time runs out with time for every timer. -/
theorem linkQualified : Obligations.LinkQualified := by
  refine ⟨fun s n released down qualifying clock => ?runs, fun s none => ?none⟩
  case runs =>
    simp only [exec, execLinkQualified, State.live_eq_true released, down, qualifying, runOut_eq clock]
  case none =>
    simp only [exec, execLinkQualified]
    split
    · rename_i live down qualifying
      rcases none with asserted | up | none
      · simp [State.live, asserted] at live
      · rw [up] at down; cases down
      · rw [none] at qualifying; cases qualifying
    · rfl

theorem loseTrunk_eq (s : State) :
    let d := { s with tp.link := .down, tp.loss := none, tp.qualifying := none, tp.rx := [], tp.tx := [] }
    let t := (d.transitLoss.attentionLoss).count (partCounter .linkDownEvents)
    s.loseTrunk = if s.cb.resetWaiting = true then t.applyManagementReset else t := by
  intro d t
  have waiting : t.cb.resetWaiting = s.cb.resetWaiting := ((State.SameOutside.keeps d).transitLoss rfl).resetWaiting
  rw [← waiting]
  rfl

theorem loseTrunk_link (s : State) : s.loseTrunk.tp.link = .down := by
  have down := ((State.SameOutside.keeps _).transitLoss (s := { s with
    tp.link := .down, tp.loss := none, tp.qualifying := none, tp.rx := [], tp.tx := [] }) rfl).link
  rw [loseTrunk_eq]
  split <;> exact down

/-- Settles O8: the loss is taken with the link DOWN, so the step ends as it stands. -/
theorem trunkLoss : Obligations.TrunkLoss := by
  refine ⟨fun s n released up loss clock => ?runs, fun s none => ?none⟩
  case runs =>
    simp only [exec, execTrunkLoss, State.live_eq_true released, up, loss, runOut_eq clock]
    rw [finish_linkDown (loseTrunk_link _), loseTrunk_eq]
    rfl
  case none =>
    simp only [exec, execTrunkLoss]
    split
    · rename_i live up loss
      rcases none with asserted | down | none
      · simp [State.live, asserted] at live
      · rw [down] at up; cases up
      · rw [none] at loss; cases loss
    · rfl

/-- Settles O9: what a level returns to its latch, by its service and its latch. -/
theorem lossReturnsLevels : Obligations.LossReturnsLevels := by
  refine fun s => ⟨rfl, fun l => ?_⟩
  rw [State.level_attentionLoss, Level.returned]
  cases (s.level l).service with
  | none => rfl
  | some v => cases (s.level l).latch <;> rfl

/-! ## Reception and sending -/

/-- R164, R166: a frame passes its check only outside a loss time. -/
theorem receive_eq (s : State) (words : List Word) :
    let k := s.count (partCounter .framesReceived)
    (s.tp.loss.isSome = true ∨ RxFrame.ofWords? words = none →
      s.receive words = k.count (partCounter .framesCheckFailed)) ∧
    ∀ f, s.tp.loss = none → RxFrame.ofWords? words = some f →
      s.receive words = if s.cb.resetWaiting = true then k
        else if 8 ≤ s.tp.rx.length then k.count (partCounter .framesOverrun)
        else { k with tp.rx := s.tp.rx ++ [f] } := by
  unfold State.receive
  refine ⟨fun damaged => ?_, fun f noLoss intact => ?_⟩ <;> dsimp only <;> split
  · rfl
  · rename_i f passed
    rcases damaged with loss | corrupt
    · simp [loss] at passed
    · simp [corrupt] at passed
  · rename_i failed
    simp [noLoss, intact] at failed
  · rename_i f' passed
    obtain rfl : f = f' := by simpa [noLoss, intact] using passed
    rfl

/-- Settles O11. -/
theorem frameReceived : Obligations.FrameReceived := by
  refine ⟨fun s words released up => ⟨fun damaged => ?_, fun f noLoss intact => ?_⟩, fun s words none => ?_⟩
  · simp [exec, execFrameReceived, State.live_eq_true released, up, (receive_eq s words).1 damaged]
  · simp [exec, execFrameReceived, State.live_eq_true released, up, (receive_eq s words).2 f noLoss intact]
  · rcases none with asserted | down
    · simp [exec, execFrameReceived, State.live_eq_false asserted]
    · simp [exec, execFrameReceived, down]

/-- Settles O12: the reset that takes effect leaves nothing to place at the end of the step. -/
theorem frameSent : Obligations.FrameSent := by
  refine ⟨fun s f rest released up head => ⟨fun goesOn => ?_, fun waits last => ?_⟩, fun s none => ?_⟩
  · have sends : (s.live && s.tp.link == .up) = true := by simp [State.live, released, up]
    have noEffect : (s.cb.resetWaiting && rest.isEmpty) = false := by
      rcases goesOn with noReset | more
      · simp [noReset]
      · simp [more]
    simp only [exec, execFrameSent, head, sends, State.sendFrame, noEffect]
    rfl
  · subst last
    have sends : (s.live && s.tp.link == .up) = true := by simp [State.live, released, up]
    have effect : (s.cb.resetWaiting && ([] : List TxFrame).isEmpty) = true := by simp [waits]
    simp only [exec, execFrameSent, head, sends, State.sendFrame, effect, if_true, finish_applyManagementReset]
  · simp only [exec, execFrameSent]
    split
    · rename_i f rest head
      rcases none with asserted | down | empty
      · simp [State.live_eq_false asserted]
      · simp [down]
      · rw [empty] at head; cases head
    · rfl

/-- Settles O13: the reset as one equation, and its row by the frames left to send. -/
theorem managementResetTakesEffect : Obligations.ManagementResetTakesEffect := by
  refine ⟨fun s => rfl, fun s f released waits up one => ?_, fun s released waits up none => ?_, fun s idle => ?_⟩
  · have acts : (s.live && s.cb.resetWaiting && s.tp.link == .up) = true := by simp [State.live, released, waits, up]
    simp only [exec, execManagementResetTakesEffect, acts, if_true, one, State.sendFrame, finish_applyManagementReset]
  · have acts : (s.live && s.cb.resetWaiting && s.tp.link == .up) = true := by simp [State.live, released, waits, up]
    simp only [exec, execManagementResetTakesEffect, acts, if_true, none, finish_applyManagementReset]
  · rcases idle with asserted | noReset | down | many
    · simp [exec, execManagementResetTakesEffect, State.live_eq_false asserted]
    · simp [exec, execManagementResetTakesEffect, noReset]
    · simp [exec, execManagementResetTakesEffect, down]
    · simp only [exec, execManagementResetTakesEffect]
      split
      · split
        · rename_i none
          simp [none] at many
        · rename_i f one
          simp [one] at many
        · rfl
      · rfl

end Sys2Proof.Machine
end

section

/-! The end of a step and the resend deadlines (R144, R145, R149, R161, R200). -/

namespace Sys2Proof.Machine

/-- The first element of a rising list that passes a test. -/
theorem find?_lowest {α : Type} [LT α] {as : List α} (rising : as.Pairwise (· < ·)) {a : α} (on : a ∈ as)
    {p : α → Bool} (passes : p a = true) (lowest : ∀ b ∈ as, b < a → p b = false) : as.find? p = some a := by
  rw [List.find?_eq_findSome?_guard]
  refine findSome_lowest rising on (Option.guard_eq_some_iff.2 ⟨rfl, passes⟩) fun b hb below => ?_
  simp [lowest b hb below]

theorem allLevels_rising : allLevels.Pairwise (· < ·) := by decide

namespace State
variable {s : State}

/-! ## What the Attention Unit may place -/

theorem attentionMayPlace_iff : s.attentionMayPlace = true ↔
    s.pins.porn = false ∧ s.tp.link = .up ∧ s.cb.resetWaiting = false := by
  simp [attentionMayPlace, live, and_assoc]

/-- The level has a resend that waits for a place (R149). -/
def Waits (s : State) (l : LevelId) : Prop := ∃ v, (s.level l).service = some v ∧ v.deadline = .waiting

theorem deliverable_iff (may : s.attentionMayPlace = true) (l : LevelId) : s.deliverable l = true ↔
    (s.level l).latch ≠ none ∧ (s.level l).masked = false ∧ (s.level l).service = none ∧
      ∀ m, (s.level m).service ≠ none → l < m := by
  simp [deliverable, may, requested, inService, mem_allLevels, Option.isSome_iff_ne_none, imp_iff_not_or, and_assoc]

theorem deliveryChoice_eq_some {l : LevelId} (delivers : s.deliverable l = true)
    (lowest : ∀ m, m < l → ¬ s.deliverable m = true) : s.deliveryChoice = some l :=
  find?_lowest allLevels_rising (mem_allLevels l) delivers fun m _ below => by simpa using lowest m below

theorem deliveryChoice_eq_none (none : ∀ l, ¬ s.deliverable l = true) : s.deliveryChoice = Option.none :=
  List.find?_eq_none.2 fun l _ => none l

theorem deadline_start (interval : Nat) :
    Deadline.start interval = if interval = 0 then .off else .running (interval * 1000) := rfl

theorem deadline_start_ne_waiting (interval : Nat) : Deadline.start interval ≠ .waiting := by
  unfold Deadline.start
  split <;> nofun

/-! ## Waiting resends -/

theorem service_count (s : State) (i : Fin 49) (told : Bool) (l : LevelId) :
    ((s.count i told).level l).service = (s.level l).service := by
  rcases level_count s i told l with same | raised
  · rw [same]
  · rw [raised]; rfl

theorem service_resend (s : State) (l : LevelId) (v : Service) (m : LevelId) :
    ((s.resend l v).level m).service =
      if m = l then some { v with deadline := Deadline.start s.au.interval } else (s.level m).service := by
  unfold resend
  dsimp only
  rw [service_count, placeAttention_level, level_setLevel]
  split <;> rfl

theorem offerResend_waiting {l : LevelId} {v : Service} (service : (s.level l).service = some v)
    (waiting : v.deadline = .waiting) (may : s.attentionMayPlace = true) (free : 0 < s.freePlaces) :
    s.offerResend l = s.resend l v := by
  simp [offerResend, service, waiting, may, free]

/-- Levels without a waiting resend are passed over. -/
theorem foldl_offerResend_of_none {ls : List LevelId} (none : ∀ l ∈ ls, ¬ s.Waits l) :
    ls.foldl offerResend s = s := by
  induction ls with
  | nil => rfl
  | cons l ls ih =>
    have first : s.offerResend l = s :=
      offerResend_quiet fun v service waiting => none l (by simp) ⟨v, service, waiting⟩
    rw [List.foldl_cons, first]
    exact ih fun m on => none m (by simp [on])

/-- The lowest waiting resend takes the first free place, and the rest is as if it had not waited. -/
theorem offerResends_of_lowest {l : LevelId} {v : Service} (service : (s.level l).service = some v)
    (waiting : v.deadline = .waiting) (lowest : ∀ m, m < l → ¬ s.Waits m) (may : s.attentionMayPlace = true)
    (free : 0 < s.freePlaces) : s.offerResends = (s.resend l v).offerResends := by
  obtain ⟨before, after, split⟩ := List.append_of_mem (mem_allLevels l)
  have below : ∀ m ∈ before, m < l := by
    have rising := allLevels_rising
    rw [split, List.pairwise_append] at rising
    exact fun m on => rising.2.2 m on l (by simp)
  have passed : ∀ m ∈ before, ¬ (s.resend l v).Waits m := by
    rintro m on ⟨w, serves, waits⟩
    have lower := below m on
    rw [service_resend, if_neg (Fin.ne_of_lt lower)] at serves
    exact lowest m lower ⟨w, serves, waits⟩
  have restarted : (s.resend l v).offerResend l = s.resend l v := by
    refine offerResend_quiet fun w serves => ?_
    rw [service_resend, if_pos rfl] at serves
    cases serves
    exact deadline_start_ne_waiting s.au.interval
  rw [offerResends, offerResends, split, List.foldl_append, List.foldl_append, List.foldl_cons, List.foldl_cons,
    foldl_offerResend_of_none fun m on => lowest m (below m on), foldl_offerResend_of_none passed, restarted,
    offerResend_waiting service waiting may free]

/-! ## The end of a step -/

theorem finish_of_resend {l : LevelId} {v : Service} (service : (s.level l).service = some v)
    (waiting : v.deadline = .waiting) (lowest : ∀ m, m < l → ¬ s.Waits m) (may : s.attentionMayPlace = true)
    (free : 0 < s.freePlaces) (before : State) : s.finish before = (s.resend l v).finish before := by
  unfold finish
  rw [offerResends_of_lowest service waiting lowest may free]

theorem finish_of_delivery {l : LevelId} {detail : Word} (none : ∀ m, ¬ s.Waits m) (delivers : s.deliverable l = true)
    (lowest : ∀ m, m < l → ¬ s.deliverable m = true) (latch : (s.level l).latch = some detail)
    (free : 0 < s.freePlaces) (before : State) : s.finish before = s.deliver (s.joinedSince before) l detail := by
  unfold finish
  rw [offerResends, foldl_offerResend_of_none fun m _ => none m]
  simp [offerDelivery, deliveryChoice_eq_some delivers lowest, latch, free]

theorem joinedSince_iff (s before : State) : s.joinedSince before = true ↔
    ∃ i : Fin 49, s.cb.saturated[i] = true ∧ before.cb.saturated[i] = false := by
  unfold joinedSince
  simp

theorem deliver_eq {l : LevelId} (unmasked : (s.level l).masked = false) (told : Bool) (detail : Word) :
    let v : Service := { sequence := s.au.nextSequence, detail := detail, deadline := Deadline.start s.au.interval }
    let r := s.setLevel l { latch := none, masked := false, service := some v }
    s.deliver told l detail = State.count { r with
      au.nextSequence := s.au.nextSequence + 1
      tp.tx := s.tp.tx ++ [.attention l s.au.nextSequence detail] } (partCounter .attentionFramesSent) told := by
  simp only [← unmasked]
  rfl

end State

/-- Settles O52: what keeps the end of a step from placing anything; else the lowest waiting resend, else the delivery
choice. -/
theorem endOfStep : Obligations.EndOfStep := by
  refine ⟨fun s released => ⟨?_, ?_⟩, fun s before idle => ?_, fun s before released up noReset free => ?_⟩
  · simp [exec, execAttentionDelivery, State.live_eq_true released]
  · simp [exec, execDeferredResend, State.live_eq_true released]
  · rcases idle with asserted | down | waits | full
    · exact finish_porn asserted before
    · exact finish_linkDown down before
    · exact finish_waitingReset waits before
    · exact finish_idle (.inr full) before
  · have may : s.attentionMayPlace = true := State.attentionMayPlace_iff.2 ⟨released, up, noReset⟩
    simp only [← State.deliverable_iff may]
    refine ⟨fun l v service waiting lowest => ?_, fun none nothing => ?_, fun l detail none delivers lowest latch => ?_⟩
    · exact State.finish_of_resend service waiting lowest may free before
    · exact finish_quiet ⟨State.deliveryChoice_eq_none nothing,
        fun l v service waiting => none l ⟨v, service, waiting⟩⟩ before
    · refine ⟨s.joinedSince before, s.joinedSince_iff before, ?_⟩
      rw [State.finish_of_delivery none delivers lowest latch free, State.deliver_eq ((State.deliverable_iff may l).1 delivers).2.1]
      rfl

/-! ## A deadline runs out -/

section
variable {s : State} {l : LevelId} {v : Service}

/-- R161: while a reset waits the deadline is not started again. -/
theorem resendExpired_of_reset (waits : s.cb.resetWaiting = true) :
    s.resendExpired l v = s.setLevel l { s.level l with service := some { v with deadline := .off } } :=
  if_pos waits

theorem resendExpired_of_place (may : s.attentionMayPlace = true) (free : 0 < s.freePlaces) :
    s.resendExpired l v = s.resend l v := by
  obtain ⟨-, -, noReset⟩ := State.attentionMayPlace_iff.1 may
  simp [State.resendExpired, noReset, may, free]

theorem resendExpired_of_full (noReset : s.cb.resetWaiting = false)
    (full : s.attentionMayPlace = false ∨ s.freePlaces = 0) :
    s.resendExpired l v = s.setLevel l { s.level l with service := some { v with deadline := .waiting } } := by
  have noPlace : ¬ (s.attentionMayPlace = true ∧ 0 < s.freePlaces) := by
    rcases full with full | full <;> simp [full]
  simp [State.resendExpired, noReset, noPlace]

theorem exec_resendDeadlineExpiry_of_running {n : Nat} (released : s.pins.porn = false)
    (service : (s.level l).service = some v) (running : v.deadline = .running n)
    (clock : n = 0 ∨ s.pins.refclk = true) :
    exec (.resendDeadlineExpiry l) s = .next (((s.elapse n).resendExpired l (v.elapse n)).finish (s.elapse n)) := by
  simp only [exec, execResendDeadlineExpiry, State.live_eq_true released, service, Option.map_some, running,
    runOut_eq clock, State.level_elapse, Level.elapse]

end

/-- Settles O53: once the time left has passed, by the reset, the link and the free places. -/
theorem resendDeadlineExpiry : Obligations.ResendDeadlineExpiry := by
  refine ⟨fun s l v n released service running clock => ?_, fun s l none => ?_⟩
  · intro e left started may
    have ends : ∀ d, e.setLevel l { e.level l with service := some { v.elapse n with deadline := d } } = left d := by
      intro d
      simp only [left, e, State.level_elapse]
      rfl
    rw [exec_resendDeadlineExpiry_of_running released service running clock]
    refine ⟨fun waits => ?_, fun noReset mayPlace => ?_, fun noReset notPlace => ?_⟩
    · rw [resendExpired_of_reset (s := s.elapse n) waits, ends Deadline.off,
        finish_waitingReset (s := left Deadline.off) waits]
    · have places : e.attentionMayPlace = true := State.attentionMayPlace_iff.2 ⟨released, mayPlace.1, noReset⟩
      rw [resendExpired_of_place places mayPlace.2, State.resend, ends]
      rfl
    · have full : e.attentionMayPlace = false ∨ e.freePlaces = 0 := by
        by_cases up : s.tp.link = .up
        · exact .inr (Nat.eq_zero_of_not_pos fun free => notPlace ⟨up, free⟩)
        · exact .inl (Bool.eq_false_iff.2 fun places => up (State.attentionMayPlace_iff.1 places).2.1)
      rw [resendExpired_of_full (s := s.elapse n) noReset full, ends Deadline.waiting,
        finish_idle (s := left Deadline.waiting) full]
  · simp only [exec, execResendDeadlineExpiry]
    split
    · rename_i n _ running
      obtain ⟨v, service, deadline⟩ := Option.map_eq_some_iff.1 running
      exact absurd deadline (none v n service)
    · rfl

end Sys2Proof.Machine
end

section

/-! Control requests on a free tag: MANAGEMENT_RESET (R174, R191), RELEASE (R151 to R153, R158), COPY_ACTIVE (R25), the
segment commands (R125 to R131), and what every control request shares (R36, R181, R188). -/

namespace Sys2Proof.Machine

/-! ## Shared -/

/-- A taken frame's row: the command deals with the frame on the state in which its place is held. -/
theorem Takes.exec_eq {s : State} {row : TakenRow} {f : RxFrame} {rest : List RxFrame} (h : Takes s row f rest)
    {c : Instr} {owner : State → RxFrame → State} (meaning : exec c s = .next (s.takeFrame row owner)) :
    exec c s = .next ((owner (s.taken rest) f).finish s) := by
  rw [meaning, h.takeFrame]

theorem exec_control_inUse {c : Instr} {row : TakenRow} (control : ControlCommand c row) {s : State} {f : RxFrame}
    {rest : List RxFrame} (takes : Takes s row f rest) (inUse : s.entry f.tag ≠ .free) :
    exec c s = .next (((s.taken rest).placeResponse (f.reply .tagInUse 0)).finish s) := by
  have busy : (s.taken rest).tagInUse f.tag = true := (tagInUse_iff s f.tag).2 inUse
  cases control with
  | cwrite cwrite =>
    cases cwrite <;> exact (takes.exec_eq rfl).trans (by rw [State.takeCwrite, withFreeTag_inUse busy])
  | cread => exact (takes.exec_eq rfl).trans (by rw [State.takeCread, withFreeTag_inUse busy])
  | commit => exact (takes.exec_eq rfl).trans (by rw [State.takeCommit, withFreeTag_inUse busy])
  | copyActive => exact (takes.exec_eq rfl).trans (by rw [State.takeCopyActive, withFreeTag_inUse busy])
  | segmentStart =>
    exact (takes.exec_eq rfl).trans (by rw [State.takeStart, State.segmentCommand, withFreeTag_inUse busy])
  | segmentStop =>
    exact (takes.exec_eq rfl).trans (by rw [State.takeStop, State.segmentCommand, withFreeTag_inUse busy])
  | segmentSynced =>
    exact (takes.exec_eq rfl).trans (by rw [State.takeSynced, State.segmentCommand, withFreeTag_inUse busy])
  | segmentReset =>
    exact (takes.exec_eq rfl).trans (by rw [State.takeReset, State.segmentCommand, withFreeTag_inUse busy])
  | managementReset => exact (takes.exec_eq rfl).trans (by rw [State.takeManagementReset, withFreeTag_inUse busy])
  | unknown => exact (takes.exec_eq rfl).trans (by rw [State.takeUnknownCommand, withFreeTag_inUse busy])
  | release => exact (takes.exec_eq rfl).trans (by rw [State.takeRelease, withFreeTag_inUse busy])

theorem RxFrame.cwriteRow_ne_unknownCommandCode (f : RxFrame) : f.cwriteRow ≠ .unknownCommandCode := by
  unfold RxFrame.cwriteRow
  dsimp only
  split_ifs <;> nofun

theorem CommandCode.ofWord?_eq_none_iff (w : Word) :
    CommandCode.ofWord? w = none ↔ w ∉ [0x01, 0x02, 0x10, 0x11, 0x12, 0x13, 0x20] := by
  rw [CommandCode.ofWord?, List.find?_eq_none]
  change _ ↔ w ∉ List.map CommandCode.code [.commit, .copyActive, .segmentStart, .segmentStop, .segmentSynced,
    .segmentReset, .managementReset]
  simp only [List.mem_map, not_exists, not_and, beq_iff_eq]

theorem RxFrame.commandRow_eq_unknown_iff (f : RxFrame) :
    f.commandRow = .unknownCommandCode ↔ CommandCode.ofWord? f.word1 = none := by
  unfold RxFrame.commandRow
  cases CommandCode.ofWord? f.word1 with
  | none => simp
  | some code => cases code <;> simp

/-- UNKNOWN_COMMAND_CODE takes the COMMAND frames whose code is none of the seven (R188). -/
theorem RxFrame.row_eq_unknownCommandCode_iff (f : RxFrame) : f.row = .unknownCommandCode ↔
    f.structuralKind? = some .command ∧ f.word1 ∉ [0x01, 0x02, 0x10, 0x11, 0x12, 0x13, 0x20] := by
  rw [← CommandCode.ofWord?_eq_none_iff, ← RxFrame.commandRow_eq_unknown_iff]
  unfold RxFrame.row
  cases f.structuralKind? with
  | none => simp
  | some kind => cases kind <;> simp [RxFrame.cwriteRow_ne_unknownCommandCode]

/-- Settles O43: every control request looks at its tag first; an unknown code is then MALFORMED. -/
theorem controlTagAndCode : Obligations.ControlTagAndCode := by
  refine ⟨fun c row s f rest control => exec_control_inUse control, RxFrame.row_eq_unknownCommandCode_iff, fun s f rest takes free => ?_⟩
  have tagFree : (s.taken rest).tagInUse f.tag = false := tagInUse_false free
  refine (takes.exec_eq rfl).trans ?_
  rw [State.takeUnknownCommand, withFreeTag_free tagFree]
  rfl

/-! ## MANAGEMENT_RESET -/

theorem takeFrame_of_waitingReset {s : State} (waits : s.cb.resetWaiting = true) (row : TakenRow)
    (owner : State → RxFrame → State) : s.takeFrame row owner = s := by
  unfold State.takeFrame
  split
  · simp [State.mayTake, waits]
  · rfl

/-- R161: while a reset waits a resend deadline that runs out places nothing. -/
theorem resendDeadlineExpiry_tx {s t : State} {l : LevelId} (waits : s.cb.resetWaiting = true)
    (done : exec (.resendDeadlineExpiry l) s = .next t) : t.tp.tx = s.tp.tx := by
  cases done
  split
  · split
    · rename_i u ran
      have same : u.cb.resetWaiting = true ∧ u.tp.tx = s.tp.tx := by
        rcases State.runOut?_cases ran with rfl | rfl <;> exact ⟨waits, rfl⟩
      split
      · rename_i v _
        rw [resendExpired_of_reset same.1, finish_waitingReset (s := u.setLevel l _) same.1]
        exact same.2
      · exact same.2
    · rfl
  · rfl

/-- Settles O50. -/
theorem managementReset : Obligations.ManagementReset := by
  refine ⟨fun s f rest takes free => ?_, fun s row owner waits => takeFrame_of_waitingReset waits row owner,
    fun s before waits => finish_waitingReset waits before, fun s t l => resendDeadlineExpiry_tx⟩
  have tagFree : (s.taken rest).tagInUse f.tag = false := tagInUse_false free
  refine (takes.exec_eq rfl).trans ?_
  rw [State.takeManagementReset, withFreeTag_free tagFree, finish_waitingReset rfl]
  rfl

/-! ## COPY_ACTIVE -/

theorem WindowBanks.setShadow_active (b : WindowBanks) : b.setBank b.shadow (b.bank b.active) = { b with
    bankA := if b.active = .a then b.bankA else b.bankB
    bankB := if b.active = .a then b.bankA else b.bankB } := by
  obtain ⟨bankA, bankB, active, _, _, _⟩ := b
  cases active <;> rfl

/-- Settles O49. -/
theorem copyActive : Obligations.CopyActive := by
  intro s f rest takes free k
  have tagFree : k.tagInUse f.tag = false := tagInUse_false free
  rw [takes.exec_eq rfl, State.takeCopyActive, withFreeTag_free tagFree]
  refine ⟨fun drains => ?_, fun drained => ?_⟩
  · rw [if_pos (k.wb.draining_iff.2 drains)]
    rfl
  · have idle : ¬ k.wb.draining = true := fun draining => by
      have := k.wb.draining_iff.1 draining
      exact absurd drained (Nat.ne_of_gt this)
    rw [if_neg idle, WindowBanks.setShadow_active]
    rfl

/-! ## RELEASE -/

theorem State.inServiceSet_congr {s u : State} (same : ∀ l, (u.level l).service = (s.level l).service) :
    u.inServiceSet = s.inServiceSet := by
  unfold State.inServiceSet
  congr 1
  funext l
  rw [State.inService, State.inService, same]

theorem RxFrame.releaseLevel?_of_le {f : RxFrame} (above : 8 ≤ f.word1.toNat) : f.releaseLevel? = none :=
  dif_neg (by omega)

theorem RxFrame.releaseLevel?_of_eq {f : RxFrame} {l : LevelId} (same : f.word1.toNat = l.val) :
    f.releaseLevel? = some l := by
  rw [RxFrame.releaseLevel?, dif_pos (by omega)]
  exact congrArg some (Fin.ext same)

theorem RxFrame.eq_releaseSequence_iff (f : RxFrame) (q : Byte) :
    q = f.releaseSequence ↔ q.toNat = f.word2.toNat % 256 := by
  rw [← BitVec.toNat_inj, RxFrame.releaseSequence, BitVec.extractLsb'_toNat]
  simp

namespace State
variable {s : State} {f : RxFrame}

theorem takeRelease_malformed (free : s.tagInUse f.tag = false) (none : f.releaseLevel? = none) :
    s.takeRelease f = (s.placeResponse (f.reply .malformed 0)).count (partCounter .framesMalformed) := by
  rw [takeRelease, withFreeTag_free free, none]
  rfl

theorem takeRelease_stale (free : s.tagInUse f.tag = false) {l : LevelId} (level : f.releaseLevel? = some l)
    (other : ∀ v, (s.level l).service = some v → v.sequence ≠ f.releaseSequence) :
    s.takeRelease f = s.placeResponse (f.reply .stale s.inServiceSet) := by
  rw [takeRelease, withFreeTag_free free, level]
  dsimp only
  split
  · rw [if_neg (other _ ‹_›)]
    rfl
  · rfl

/-- An accepted RELEASE answers with the in-service set without its level: serving the segment's queue changes none. -/
theorem takeRelease_ok (free : s.tagInUse f.tag = false) {l : LevelId} {v : Service} (level : f.releaseLevel? = some l)
    (service : (s.level l).service = some v) (quoted : v.sequence = f.releaseSequence) :
    s.takeRelease f = (s.releaseLevel l).placeResponse
      (f.reply .ok (s.setLevel l { s.level l with service := none }).inServiceSet) := by
  have same : (s.releaseLevel l).inServiceSet = (s.setLevel l { s.level l with service := none }).inServiceSet := by
    refine inServiceSet_congr fun m => ?_
    unfold releaseLevel
    dsimp only
    split
    · rw [serveReports_service]
    · rfl
  rw [takeRelease, withFreeTag_free free, level]
  simp only [service, if_pos quoted, same]
  rfl

theorem releaseLevel_of_part {l : LevelId} (part : l.val < 2 ∨ 5 < l.val) :
    s.releaseLevel l = s.setLevel l { s.level l with service := none } := by
  have none : levelSegment? l = none := dif_neg (by omega)
  simp only [releaseLevel, none]

theorem releaseLevel_of_device (g : SegId) : s.releaseLevel (deviceLevel g) =
    (s.setLevel (deviceLevel g) { s.level (deviceLevel g) with service := none }).serveReports g := by
  simp only [releaseLevel, levelSegment_deviceLevel]

/-! The attention queue of a released level, by its length (R153). -/

theorem serveReports_none {g : SegId} (none : ¬ (s.seg g).state.carries = true ∨ (s.seg g).attention = []) :
    s.serveReports g = s := by
  unfold serveReports
  rcases none with idle | empty
  · rw [if_neg idle]
  · simp [empty]

theorem serveReports_last {g : SegId} {head : Byte} (carries : (s.seg g).state.carries = true)
    (queue : (s.seg g).attention = [head]) : s.serveReports g = s.setSeg g { s.seg g with
      attention := [], line := (s.seg g).line ++ [.attnAck head] } := by
  rw [serveReports, if_pos carries, queue]
  simp [placeOnLine, setSeg, seg]

theorem serveReports_more {g : SegId} {head next : Byte} {more : List Byte} (carries : (s.seg g).state.carries = true)
    (queue : (s.seg g).attention = head :: next :: more) : s.serveReports g = State.raise (s.setSeg g { s.seg g with
      attention := next :: more, line := (s.seg g).line ++ [.attnAck head] }) (deviceLevel g) (next.setWidth 32) := by
  rw [serveReports, if_pos carries, queue]
  simp [placeOnLine, setSeg, seg]

end State

/-- Settles O51: the three outcomes of RELEASE, and the served queue by its length. -/
theorem release : Obligations.Release := by
  refine ⟨fun s => ⟨levelsWhere_lt _, levelsWhere_getLsbD _⟩, fun s f rest takes free => ?_⟩
  intro k
  have tagFree : k.tagInUse f.tag = false := tagInUse_false free
  have taken : exec .release s = .next ((k.takeRelease f).finish s) := takes.exec_eq rfl
  refine ⟨fun above => ?_, fun l named => ⟨fun other => ?_, fun v service quoted => ?_⟩⟩
  · rw [taken, State.takeRelease_malformed tagFree (RxFrame.releaseLevel?_of_le above)]
  · rw [taken, State.takeRelease_stale tagFree (RxFrame.releaseLevel?_of_eq named) fun v service same =>
      other v service ((f.eq_releaseSequence_iff _).1 same)]
    rfl
  · intro level ends
    have accepted : ∀ u, k.releaseLevel l = u → ends u := by
      rintro u rfl
      simp only [ends, taken, State.takeRelease_ok tagFree (RxFrame.releaseLevel?_of_eq named)
        (show (k.level l).service = some v from service) ((f.eq_releaseSequence_iff _).2 quoted)]
      rfl
    refine ⟨fun part => accepted _ (State.releaseLevel_of_part part), ?_⟩
    rintro g rfl carries
    simp only [show carries ↔ (k.seg g).state.carries = true from (carries_iff _).symm]
    refine ⟨fun none => accepted _ ?_, fun head runs queue => accepted _ ?_, fun head next more runs queue => accepted _ ?_⟩
    · exact (State.releaseLevel_of_device g).trans (State.serveReports_none (s := level) none)
    · exact (State.releaseLevel_of_device g).trans (State.serveReports_last (s := level) runs queue)
    · exact (State.releaseLevel_of_device g).trans (State.serveReports_more (s := level) runs queue)

end Sys2Proof.Machine
end

section

/-! Freeing and the chain of flushes (R21, R29, R49, R59), outcomes (R45 to R47, R81, R82), failover (R81 to R85) and the
service of waiters (R86). -/

namespace Sys2Proof.Machine

namespace State
variable {s : State}

/-! ## Freeing -/

theorem countOut_eq (s : State) (which : Bank) :
    let u := { s with wb := s.wb.setInflight which (s.wb.inflight which - 1) }
    s.countOut which = if which ≠ s.wb.active ∧ s.wb.inflight which = 1 then u.raise 6 which.code else u := by
  have shadow : which = s.wb.shadow ↔ which ≠ s.wb.active := by
    unfold WindowBanks.shadow
    cases s.wb.active <;> cases which <;> simp [Bank.other]
  simp [countOut, shadow]

theorem uncountEntry_data {t : Tag} {d : DataEntry} (e : s.entry t = .data d) : s.uncountEntry t = s.countOut d.bank := by
  simp only [uncountEntry, e]

theorem uncountEntry_flushing {t : Tag} {barrier : List Tag} {n : Nat} (e : s.entry t = .flushing barrier n) :
    s.uncountEntry t = s := by
  simp only [uncountEntry, e]

theorem releasable?_eq_some {t : Tag} {n : Nat} (e : s.entry t = .flushing [] n)
    (lowest : ∀ u, u < t → ∀ m, s.entry u ≠ .flushing [] m) : s.releasable? = some (t, n) := by
  refine findSome_lowest allTags_rising (mem_allTags t) (by simp [e]) fun u _ below => ?_
  split
  · exact absurd ‹_› (lowest u below _)
  · rfl

theorem releasable?_eq_none (none : ∀ t n, s.entry t ≠ .flushing [] n) : s.releasable? = Option.none := by
  refine List.findSome?_eq_none_iff.2 fun t _ => ?_
  split
  · exact absurd ‹_› (none t _)
  · rfl

theorem entry_of_releasable? {t : Tag} {n : Nat} (found : s.releasable? = some (t, n)) :
    s.entry t = .flushing [] n := by
  obtain ⟨u, -, hu⟩ := List.exists_of_findSome?_eq_some found
  split at hu
  · cases hu; assumption
  · cases hu

/-! The chain stops within 32 flushes: each one freed leaves fewer open entries, so any fuel that covers the open entries
gives the same state. -/

theorem openTags_length_le (s : State) : s.openTags.length ≤ 32 := by
  refine (List.length_filter_le ..).trans ?_
  simp [allTags]

theorem releaseFlushes_of_none (none : s.releasable? = Option.none) (k : Nat) : releaseFlushes k s = s := by
  cases k with
  | zero => rfl
  | succ k => simp only [releaseFlushes, none]

theorem releaseFlushes_of_some {t : Tag} {n : Nat} (found : s.releasable? = some (t, n)) (k : Nat) :
    releaseFlushes (k + 1) s = releaseFlushes k ((s.placeResponse (flushResponse t .ok n)).clearEntry t) := by
  simp only [releaseFlushes, found]

theorem openTags_of_released {t : Tag} {n : Nat} (found : s.releasable? = some (t, n)) (r : Response) :
    s.openTags.length = ((s.placeResponse r).clearEntry t).openTags.length + 1 := by
  have inUse : s.tagInUse t = true := by simp [tagInUse, entry_of_releasable? found, Entry.isOpen]
  exact EntriesKept.openTags_of_inUse inUse

theorem releaseFlushes_enough {j k : Nat} (hj : s.openTags.length ≤ j) (hk : s.openTags.length ≤ k) :
    releaseFlushes j s = releaseFlushes k s := by
  induction j generalizing s k with
  | zero =>
    cases found : s.releasable? with
    | none => rw [releaseFlushes_of_none found, releaseFlushes_of_none found]
    | some tn =>
      have fewer := openTags_of_released found (flushResponse tn.1 .ok tn.2)
      omega
  | succ j ih =>
    cases found : s.releasable? with
    | none => rw [releaseFlushes_of_none found, releaseFlushes_of_none found]
    | some tn =>
      have fewer := openTags_of_released found (flushResponse tn.1 .ok tn.2)
      cases k with
      | zero => omega
      | succ k =>
        rw [releaseFlushes_of_some found, releaseFlushes_of_some found]
        exact ih (by omega) (by omega)

theorem releaseChain_idle (idle : s.cb.resetWaiting = true ∨ ∀ t n, s.entry t ≠ .flushing [] n) :
    s.releaseChain = s := by
  unfold releaseChain
  split
  · rfl
  · rename_i runs
    exact releaseFlushes_of_none (releasable?_eq_none (idle.resolve_left runs)) 32

theorem releaseChain_next {t : Tag} {n : Nat} (noReset : s.cb.resetWaiting = false) (e : s.entry t = .flushing [] n)
    (lowest : ∀ u, u < t → ∀ m, s.entry u ≠ .flushing [] m) :
    s.releaseChain = ((s.placeResponse (flushResponse t .ok n)).clearEntry t).releaseChain := by
  have found := releasable?_eq_some e lowest
  have fewer := openTags_of_released found (flushResponse t .ok n)
  have all := s.openTags_length_le
  unfold releaseChain
  rw [if_neg (by simp [noReset]), if_neg (by simp [noReset]), releaseFlushes_of_some found]
  exact releaseFlushes_enough (by omega) (by omega)

end State

/-- Settles O25: freeing by kind, then the chain one flush at a time. -/
theorem entryFreed : Obligations.EntryFreed := by
  refine ⟨fun s t d e => ?_, fun s t b n e => ?_, State.countOut_eq, fun s t => ⟨rfl, ?_, fun u ne => ?_⟩,
    fun s => State.releaseChain_idle, fun s t n => State.releaseChain_next⟩
  · rw [State.freeEntry, State.uncountEntry_data e]
  · rw [State.freeEntry, State.uncountEntry_flushing e]
  · rw [State.entry_clearEntry, if_pos rfl]
  · rw [State.entry_clearEntry, if_neg ne]
    cases s.entry u <;> rfl

/-! ## Results of a PREFERRED READ -/

/-- A settled PREFERRED READ is answered with its own response and freed (R47, R89). -/
theorem State.examine_settled_preferred {s : State} {t : Tag} {d : DataEntry} {c : Fin 4}
    (entry : s.entry t = .data d) (preferred : d.request = .preferred c none) (pending : d.phase = .pending)
    (noReset : s.cb.resetWaiting = false) (settled : ∀ l ∈ d.legs, l.state ≠ .queued ∧ l.state ≠ .sent) :
    s.examine t = (s.placeResponse (d.preferredResponse t (s.windowOf d).readList[c])).freeEntry t := by
  rw [State.examine_eq_settle entry pending settled (by simp [DataEntry.waiting, preferred]) noReset]
  simp only [State.settle, preferred]
  rfl

namespace DataEntry
variable (d : DataEntry) (t : Tag) {c : SegId}

theorem preferredResponse_of_applied (applied : d.AppliedTo c) :
    (d.preferredResponse t c).status = .ok ∧ (d.preferredResponse t c).data = d.wordsFrom c := by
  simp [preferredResponse, (d.appliedOn_iff c).2 applied, dataFrom_eq_wordsFrom]

theorem preferredResponse_of_not_applied (missed : ¬ d.AppliedTo c) :
    (d.preferredResponse t c).status = .failed ∧ (d.preferredResponse t c).data = [] := by
  have notOn : ¬ d.appliedOn c = true := mt (d.appliedOn_iff c).1 missed
  simp [preferredResponse, notOn]

theorem hasSeg_preferredResponse (g : SegId) :
    hasSeg (d.preferredResponse t c).applied g = true ↔ g = c ∧ d.AppliedTo c := by
  by_cases applied : d.appliedOn c = true
  · simp [preferredResponse, applied, (d.appliedOn_iff c).1 applied]
  · have missed : ¬ d.AppliedTo c := mt (d.appliedOn_iff c).2 applied
    simp [preferredResponse, applied, missed, hasSeg]

end DataEntry

/-- Settles O27: the response is `preferredResponse` of the cursor segment. -/
theorem preferredSettles : Obligations.PreferredSettles := by
  intro s t d c entry preferred pending noReset settled seg
  refine ⟨d.preferredResponse t seg, State.examine_settled_preferred entry preferred pending noReset settled, ?kind, rfl,
    d.preferredResponse_of_applied t, d.preferredResponse_of_not_applied t, d.hasSeg_preferredResponse t, rfl, rfl,
    fun g => ?detail⟩
  case kind =>
    simp only [DataEntry.preferredResponse, DataEntry.kindCode, preferred]
    rfl
  case detail =>
    rw [detailField_of_segmentDetail (r := d.preferredResponse t seg) rfl d.failureCode_lt,
      d.failureCode_eq_firstReason]

/-! ## Outcomes -/

theorem DataEntry.supersededOn_iff (d : DataEntry) (w : WindowRecord) (g : SegId) : d.supersededOn w g = true ↔
    ∃ c wait, d.request = .preferred c wait ∧ (g ≠ w.readList[c] ∨ d.noneLeft = true) := by
  unfold DataEntry.supersededOn DataEntry.cursorSeg?
  cases d.request <;> simp

namespace State
variable {s : State}

/-- R47, R59: an entry that has something left to wait for stays as it is. -/
theorem examine_unsettled {t : Tag} {d : DataEntry} (e : s.entry t = .data d)
    (unsettled : d.phase ≠ .pending ∨ d.waiting ≠ none ∨ s.cb.resetWaiting = true ∨
      ∃ l ∈ d.legs, l.state = .queued ∨ l.state = .sent) : s.examine t = s := by
  have stays : (d.phase = .pending && !d.anyInFlight && d.waiting.isNone && !s.cb.resetWaiting) = false := by
    rcases unsettled with phase | waits | reset | ⟨l, on, flight⟩
    · simp [phase]
    · simp [waits]
    · simp [reset]
    · have inFlight : d.anyInFlight = true :=
        List.any_eq_true.2 ⟨l, on, by rcases flight with state | state <;> simp [state, LegState.inFlight]⟩
      simp [inFlight]
  simp [examine, e, stays]

/-- The leg record with its result: a superseded leg stores no data (R82). -/
def settledLeg (s : State) (d : DataEntry) (l : Leg) (result : LegState) : Leg :=
  { l with state := if d.supersededOn (s.windowOf d) l.seg = true ∧ result.isDone = true then .done none else result }

/-- An outcome is recorded on its leg; then it is taken by the entry's state, with a failover if the leg failed on the
cursor segment. -/
theorem legOutcome_eq {x : LegRef} {d : DataEntry} {l : Leg} (names : s.leg? x = some (d, l)) (result : LegState) :
    s.legOutcome x result = (s.setEntry x.entry
        (.data { d with legs := d.legs.set x.index (s.settledLeg d l result) })).afterOutcome x.entry
      ((d.cursorSeg? (s.windowOf d)).isSome && !d.supersededOn (s.windowOf d) l.seg && result.reason?.isSome) := by
  obtain ⟨entry, leg⟩ := leg?_some names
  have reason : (if d.supersededOn (s.windowOf d) l.seg = true ∧ result.isDone = true then .done none
      else result).reason? = result.reason? := by
    split
    · rename_i both
      cases result with
      | done words => rfl
      | queued | sent | failed _ | withdrawn => cases both.2
    · rfl
  simp only [legOutcome, entry, leg, settledLeg, Bool.and_eq_true, reason]

theorem afterOutcome_pending {t : Tag} {d : DataEntry} (e : s.entry t = .data d) (pending : d.phase = .pending)
    (failsOver : Bool) : s.afterOutcome t failsOver = (if failsOver then s.failover t else s).examine t := by
  simp only [afterOutcome, e, pending]

theorem afterOutcome_cancelling {t : Tag} {d : DataEntry} (e : s.entry t = .data d) (phase : d.phase = .cancelling)
    (failsOver : Bool) : s.afterOutcome t failsOver =
      if d.anySent || s.cb.resetWaiting then s else s.answerEntry t (d.cancelledResponse t) := by
  simp only [afterOutcome, e, phase]

theorem afterOutcome_abandoned {t : Tag} {d : DataEntry} (e : s.entry t = .data d) (phase : d.phase = .abandoned)
    (failsOver : Bool) : s.afterOutcome t failsOver = if d.anySent then s else s.dropEntry t := by
  simp only [afterOutcome, e, phase]

end State

/-- Settles O29: one equation for the recorded outcome, then the entry's state. -/
theorem outcomeTaken : Obligations.OutcomeTaken := by
  refine ⟨DataEntry.supersededOn_iff, fun s x d l result names => ?_, DataEntry.hasSeg_applied,
    fun s t d => State.examine_unsettled⟩
  intro superseded m e v awaited
  have recorded : v.entry x.entry = .data e := State.entry_setEntry_self ..
  have outcome := State.legOutcome_eq names result
  refine ⟨fun pending => ?_, fun cancelling => ?_, fun abandoned => ?_⟩
  · rw [outcome]
    refine (State.afterOutcome_pending recorded pending _).trans ?_
    congr 1
    have cursor : (d.cursorSeg? (s.windowOf d)).isSome = match d.request with
        | .preferred _ _ => true
        | _ => false := by
      unfold DataEntry.cursorSeg?
      cases d.request <;> rfl
    rw [cursor]
    change (if (_ && !superseded && result.reason?.isSome) = true then v.failover x.entry else v) = _
    cases d.request <;> cases superseded <;> cases result <;> rfl
  · rw [outcome]
    refine (State.afterOutcome_cancelling recorded cancelling _).trans ?_
    simp only [Bool.or_eq_true]
    rfl
  · rw [outcome]
    exact State.afterOutcome_abandoned recorded abandoned _

end Sys2Proof.Machine
end

section

/-! Failover (R81, R83 to R85) and the service of waiters (R86), each as an equation. -/

namespace Sys2Proof.Machine

/-- The next member: the lowest position behind the given one whose segment passes the test (R79, R83). -/
theorem nextMember_eq_some {members : List SegId} {from? : Option Nat} {ok : SegId → Bool} {i : Fin 4} {g : SegId}
    (after : ∀ c, from? = some c → c < i.val) (member : members[i.val]? = some g) (passes : ok g = true)
    (lowest : ∀ j h, j < i.val → (∀ c, from? = some c → c < j) → members[j]? = some h → ok h = false) :
    nextMember members from? ok = some (i, g) := by
  have rising : ([0, 1, 2, 3] : List (Fin 4)).Pairwise (· < ·) := by decide
  have every : ∀ j : Fin 4, j ∈ ([0, 1, 2, 3] : List (Fin 4)) := by decide
  refine findSome_lowest rising (every i) ?_ fun j _ below => ?_
  · cases from? with
    | none => simp [member, passes]
    | some c => simp [member, passes, after c rfl]
  · cases found : members[j.val]? with
    | none => rfl
    | some h =>
      have refused := fun behind => lowest j h below behind found
      cases from? with
      | none => simp [refused (by simp)]
      | some c =>
        by_cases later : c < j.val
        · simp [refused (by simpa using later)]
        · simp [later]

theorem nextMember_eq_none {members : List SegId} {from? : Option Nat} {ok : SegId → Bool}
    (none : ∀ j h, (∀ c, from? = some c → c < j) → members[j]? = some h → ok h = false) :
    nextMember members from? ok = Option.none := by
  cases found : nextMember members from? ok with
  | none => rfl
  | some ig =>
    obtain ⟨j, -, hj⟩ := List.exists_of_findSome?_eq_some found
    cases member : members[j.val]? with
    | none => simp [member] at hj
    | some h =>
      simp only [member, Option.ite_none_right_eq_some, Bool.and_eq_true] at hj
      have behind : ∀ c, from? = some c → c < j.val := by
        rintro c rfl
        simpa using hj.1.1
      exact absurd hj.1.2 (by simp [none j h behind member])

namespace State
variable {s : State}

theorem setEntry_setEntry (s : State) (t : Tag) (e e' : Entry) : (s.setEntry t e).setEntry t e' = s.setEntry t e' := by
  simp [setEntry]

theorem setSeg_setSeg (s : State) (g : SegId) (c c' : SegCtl) : (s.setSeg g c).setSeg g c' = s.setSeg g c' := by
  simp [setSeg]

theorem setSeg_setEntry (s : State) (t : Tag) (e : Entry) (g : SegId) (c : SegCtl) :
    (s.setSeg g c).setEntry t e = (s.setEntry t e).setSeg g c := rfl

/-! ## Failover -/

/-- The entry's QUEUED legs leave the segment's queue WITHDRAWN. -/
theorem withdrawFrom_eq {t : Tag} {d : DataEntry} (e : s.entry t = .data d) (g : SegId) :
    s.withdrawFrom t g = (s.setEntry t (.data { d with
      legs := d.legs.mapIdx fun i l =>
        if ({ entry := t, index := i } : LegRef) ∈ (s.seg g).queue then { l with state := .withdrawn } else l })).setSeg g
      { s.seg g with queue := (s.seg g).queue.filter fun r => r.entry != t } := by
  have stands : ∀ i, ((s.seg g).queue.filter fun r => r.entry == t).contains ⟨t, i⟩ = true ↔
      (⟨t, i⟩ : LegRef) ∈ (s.seg g).queue := by simp
  simp only [withdrawFrom, e, stands]
  rfl

theorem failover_eq {t : Tag} {d : DataEntry} {c : Fin 4} {wait : Option SegId} (e : s.entry t = .data d)
    (preferred : d.request = .preferred c wait) :
    let seg := (s.windowOf d).readList[c]
    s.failover t = State.moveOn ((s.setEntry t (.data { d with
        legs := d.legs.mapIdx fun i l =>
          if ({ entry := t, index := i } : LegRef) ∈ (s.seg seg).queue then { l with state := .withdrawn }
          else if l.seg = seg ∧ l.state.isDone = true then { l with state := .done none } else l })).setSeg seg
        { s.seg seg with queue := (s.seg seg).queue.filter fun r => r.entry != t }) t := by
  intro seg
  have cursor : d.cursorSeg? (s.windowOf d) = some seg := by simp [DataEntry.cursorSeg?, preferred, seg]
  simp only [failover, e, cursor, withdrawFrom_eq (entry_setEntry_self ..), setEntry_setEntry, setEntry_seg]
  congr 5
  refine List.ext_getElem (by simp) fun i _ _ => ?_
  simp only [List.getElem_mapIdx, List.getElem_map, Bool.and_eq_true, beq_iff_eq]
  by_cases stands : (⟨t, i⟩ : LegRef) ∈ (s.seg seg).queue
  · simp only [if_pos stands]
    split <;> rfl
  · simp only [if_neg stands]

/-- The model's test for other waiters, as R84 words it. -/
theorem othersWait_iff (s : State) (g : SegId) (t : Tag) : s.othersWait g t = true ↔
    ∃ u e, u ≠ t ∧ s.entry u = .data e ∧ e.waiting = some g := by
  unfold othersWait
  rw [List.any_eq_true]
  constructor
  · rintro ⟨u, -, other⟩
    rw [Bool.and_eq_true, waitsOn] at other
    obtain ⟨ne, waits⟩ := other
    split at waits
    · exact ⟨u, _, by simpa using ne, ‹_›, by simpa using waits⟩
    · cases waits
  · rintro ⟨u, e, ne, eu, waits⟩
    exact ⟨u, mem_allTags u, by simp [ne, waitsOn, eu, waits]⟩

section
variable {t : Tag} {d : DataEntry} {c : Fin 4} {wait : Option SegId} (e : s.entry t = .data d)
  (preferred : d.request = .preferred c wait)
include e preferred

/-- R83: a READ with no next ACTIVE member has no segment left. -/
theorem moveOn_of_none (none : ∀ j h, c.val < j → (s.windowOf d).members[j]? = some h → (s.seg h).state ≠ .active) :
    s.moveOn t = s.setEntry t (.data { d with request := .preferred c Option.none, noneLeft := true }) := by
  have noNext : nextMember (s.windowOf d).members (some c.val) (fun g => (s.seg g).state == .active) = Option.none :=
    nextMember_eq_none fun j h behind member => by simpa using none j h (behind _ rfl) member
  simp only [moveOn, e, preferred, noNext]

variable {i : Fin 4} {g : SegId} (behind : c < i) (member : (s.windowOf d).members[i.val]? = some g)
  (active : (s.seg g).state = .active)
  (lowest : ∀ j h, c.val < j → j < i.val → (s.windowOf d).members[j]? = some h → (s.seg h).state ≠ .active)
include behind member active lowest

/-- R84, R85: the cursor moves to the next ACTIVE member, with fresh legs where it has room and else a wait. -/
theorem moveOn_of_next : s.moveOn t =
    if d.parts.count ≤ s.freeSlots g ∧ ¬ s.othersWait g t = true then
      (s.setEntry t (.data { d with request := .preferred i none })).createLegs t g
    else s.setEntry t (.data { d with request := .preferred i (some g) }) := by
  have next : nextMember (s.windowOf d).members (some c.val) (fun g => (s.seg g).state == .active) = some (i, g) := by
    refine nextMember_eq_some (by rintro _ ⟨⟩; exact behind) member (by simpa using active) fun j h below behind member => ?_
    simpa using lowest j h (behind _ rfl) below member
  simp [moveOn, e, preferred, next]

end

/-! ## Waiters -/

theorem waitsOn_iff (s : State) (g : SegId) (t : Tag) :
    s.waitsOn g t = true ↔ ∃ d, s.entry t = .data d ∧ d.waiting = some g := by
  unfold waitsOn
  split <;> simp_all

/-- Tags that do not wait are passed over. -/
theorem serveFrom_of_none {g : SegId} {before : List Tag} (none : ∀ u ∈ before, ¬ s.waitsOn g u = true)
    (rest : List Tag) : s.serveFrom g (before ++ rest) = s.serveFrom g rest := by
  induction before with
  | nil => rfl
  | cons u before ih =>
    rw [List.cons_append, serveFrom, if_neg (none u (by simp))]
    exact ih fun v on => none v (by simp [on])

theorem serveWaiters_of_none {g : SegId}
    (none : (s.seg g).state ≠ .active ∨ ∀ t d, s.entry t = .data d → d.waiting ≠ some g) : s.serveWaiters g = s := by
  unfold serveWaiters
  split
  · rename_i active
    have nobody : ∀ u ∈ allTags, ¬ s.waitsOn g u = true := by
      intro u _ waits
      obtain ⟨d, e, on⟩ := (s.waitsOn_iff g u).1 waits
      exact none.resolve_left (by simp [active]) u d e on
    have served := serveFrom_of_none nobody []
    rwa [List.append_nil] at served
  · rfl

theorem dropWait_preferred {d : DataEntry} {c : Fin 4} {wait : Option SegId} (preferred : d.request = .preferred c wait) :
    d.dropWait = { d with request := .preferred c none } := by
  simp [DataEntry.dropWait, preferred]

theorem serveFrom_waiting {g : SegId} {t : Tag} {d : DataEntry} (e : s.entry t = .data d) (waits : d.waiting = some g)
    (rest : List Tag) : s.serveFrom g (t :: rest) =
      if d.parts.count ≤ s.freeSlots g then State.serveFrom ((s.setEntry t (.data d.dropWait)).createLegs t g) g rest
      else s := by
  rw [serveFrom, if_pos ((s.waitsOn_iff g t).2 ⟨d, e, waits⟩), e]

/-- The lowest waiter stands behind tags that do not wait. -/
theorem allTags_split (t : Tag) : ∃ before after, allTags = before ++ t :: after ∧ ∀ u ∈ before, u < t := by
  obtain ⟨before, after, split⟩ := List.append_of_mem (mem_allTags t)
  refine ⟨before, after, split, fun u on => ?_⟩
  have rising := allTags_rising
  rw [split, List.pairwise_append] at rising
  exact rising.2.2 u on t (by simp)

/-- The state of a waiter that has been served: fresh legs on the segment, and no wait (R86). -/
def served (s : State) (g : SegId) (t : Tag) (d : DataEntry) (c : Fin 4) : State :=
  (s.setEntry t (.data { d with
    request := .preferred c none
    legs := d.legs ++ d.parts.numbers.map fun p => { seg := g, part := p, state := .queued, timeouts := 0 } })).setSeg g
    { s.seg g with queue := (s.seg g).queue ++ (List.range d.parts.count).map fun n =>
      { entry := t, index := d.legs.length + n } }

theorem createLegs_setEntry (s : State) (t : Tag) (g : SegId) (d : DataEntry) (c : Fin 4) :
    (s.setEntry t (.data { d with request := .preferred c none })).createLegs t g = s.served g t d c := by
  rw [createLegs_eq (entry_setEntry_self ..), setEntry_setEntry]
  rfl

theorem served_seg_state (g : SegId) (t : Tag) (d : DataEntry) (c : Fin 4) :
    ((s.served g t d c).seg g).state = (s.seg g).state := by
  simp [served]

theorem served_waitsOn (g : SegId) (t : Tag) (d : DataEntry) (c : Fin 4) (u : Tag) :
    (s.served g t d c).waitsOn g u = true ↔ u ≠ t ∧ s.waitsOn g u = true := by
  simp only [waitsOn_iff, served, setSeg_entry, entry_setEntry]
  by_cases other : u = t
  · simp only [other, if_true, Entry.data.injEq, ne_eq, not_true, false_and, iff_false, not_exists, not_and]
    rintro _ rfl waits
    cases waits
  · simp [other]

section
variable {g : SegId} {t : Tag} {d : DataEntry} {c : Fin 4} (active : (s.seg g).state = .active)
  (e : s.entry t = .data d) (preferred : d.request = .preferred c (some g))
  (lowest : ∀ u e, u < t → s.entry u = .data e → e.waiting ≠ some g)
include active e preferred lowest

theorem serveWaiters_of_lowest : s.serveWaiters g =
    if d.parts.count ≤ s.freeSlots g then (s.served g t d c).serveWaiters g else s := by
  obtain ⟨before, after, split, below⟩ := allTags_split t
  have waits : d.waiting = some g := by simp [DataEntry.waiting, preferred]
  have passed : ∀ u ∈ before, ¬ s.waitsOn g u = true := by
    intro u on waits
    obtain ⟨d', eu, wu⟩ := (s.waitsOn_iff g u).1 waits
    exact lowest u d' (below u on) eu wu
  have passedAgain : ∀ u ∈ before ++ [t], ¬ (s.served g t d c).waitsOn g u = true := by
    intro u on waits
    obtain ⟨other, waits⟩ := (served_waitsOn g t d c u).1 waits
    simp only [List.mem_append, List.mem_singleton, other, or_false] at on
    exact passed u on waits
  have again : (s.served g t d c).serveWaiters g = (s.served g t d c).serveFrom g after := by
    rw [serveWaiters, if_pos ((served_seg_state ..).trans active), split, List.append_cons]
    exact serveFrom_of_none passedAgain after
  rw [serveWaiters, if_pos active, split, serveFrom_of_none passed, serveFrom_waiting e waits,
    dropWait_preferred preferred, createLegs_setEntry, again]

end

end State

/-- Settles O30: a failover discards the cursor segment's data and withdraws its QUEUED legs, and the READ moves on. -/
theorem failoverChoosesNext : Obligations.FailoverChoosesNext := by
  intro s t d c wait e preferred w seg
  refine ⟨State.failover_eq e preferred, fun last => State.moveOn_of_none e preferred (fun j h => last j h), ?_⟩
  intro i g behind member active lowest room
  have moves := State.moveOn_of_next e preferred behind member active lowest
  have has : room ↔ d.parts.count ≤ s.freeSlots g ∧ ¬ s.othersWait g t = true := by
    simp only [State.othersWait_iff, not_exists, not_and]
    exact Iff.rfl
  rw [State.createLegs_setEntry] at moves
  exact ⟨fun free => moves.trans (if_pos (has.1 free)), fun full => moves.trans (if_neg (mt has.2 full))⟩

/-- Settles O31: the waiters of an ACTIVE segment are served lowest tag first, as far as its free slots cover them. -/
theorem waitersServed : Obligations.WaitersServed := by
  unfold Obligations.WaitersServed
  refine ⟨fun s g porn => ?_, fun s g => ⟨rfl, offerRise_marked, offerRise_unmarked⟩, fun s g =>
    ⟨State.serveWaiters_of_none, fun t d c active e preferred lowest => ?_⟩⟩
  · show execFailoverWaitServed g s = _
    rw [execFailoverWaitServed, if_pos (State.live_eq_true porn)]
  · have serves := State.serveWaiters_of_lowest active e preferred lowest
    exact ⟨fun covered => serves.trans (if_pos covered), fun short => serves.trans (if_neg (Nat.not_le.2 short))⟩

end Sys2Proof.Machine
end

section

/-! The segment links (R103 to R117, R120, R127, R128, R131, R155): what each frame and each timer does. -/

namespace Sys2Proof.Machine

/-! ## Sending a leg -/

/-- The frame of a leg (R103, R106). -/
theorem legFrame?_eq {s : State} {x : LegRef} {d : DataEntry} {l : Leg} (names : s.leg? x = some (d, l)) (tag : LegTag) :
    s.legFrame? x tag = some (match d.request with
      | .write data _ => .legWrite tag (d.parts.get l.part).start (d.parts.wordsOf data l.part)
      | _ => .legRead tag (d.parts.get l.part).start (d.parts.get l.part).length) := by
  rw [State.legFrame?, names]
  rfl

/-- Settles O32: the head leg is sent while the segment carries legs and window and tag allow it. -/
theorem legSent : Obligations.LegSent := by
  intro s g released c may
  have sends : c.maySend = true ↔ c.queue ≠ [] ∧ may := by
    rw [SegCtl.maySend_iff, carries_iff, and_left_comm]
  refine ⟨?_, fun held => ?_⟩
  · intro x rest d l queue names allowed p frame
    have allowed : c.maySend = true := sends.2 ⟨by simp [queue], allowed⟩
    simp only [exec, execSendLeg, show (s.seg g).queue = x :: rest from queue, State.live_eq_true released,
      show (s.seg g).maySend = true from allowed, Bool.and_self, if_true, State.sendHead, legFrame?_eq names]
    rw [updateLeg_eq (show State.leg? (s.setSeg g _) x = some (d, l) from names)]
    rfl
  · simp only [exec, execSendLeg]
    split
    · rename_i x rest queue
      have refused : (s.seg g).maySend = false := Bool.eq_false_iff.2 fun allowed => by
        obtain ⟨some, allowed⟩ := sends.1 allowed
        exact held.elim some fun not => not allowed
      simp [refused]
    · rfl

/-! ## Answers -/

theorem sentUnder?_eq_none {c : SegCtl} {tag : LegTag} (none : ∀ x ∈ c.sent, x.tag ≠ tag) :
    c.sentUnder? tag = Option.none := by
  simpa [SegCtl.sentUnder?] using none

theorem doneAgrees_iff {s : State} {x : LegRef} {d : DataEntry} {l : Leg} (names : s.leg? x = some (d, l))
    (data : List Word) : s.doneAgrees x data = true ↔ match d.request with
      | .write _ _ => data = []
      | _ => data.length = (d.parts.get l.part).length := by
  rw [State.doneAgrees, names]
  dsimp only
  split <;> simp_all

theorem doneData_eq {s : State} {x : LegRef} {d : DataEntry} {l : Leg} (names : s.leg? x = some (d, l))
    (data : List Word) : s.doneData x data = match d.request with
      | .write _ _ => none
      | _ => some data := by
  obtain ⟨phase, bank, window, parts, request, legs, noneLeft⟩ := d
  rw [State.doneData, names]
  cases request <;> rfl

/-- Settles O33: a LEG_DONE with an agreeing count is an outcome; any other is corrupt. -/
theorem legDone : Obligations.LegDone := by
  intro s g tag data x d l released carries found names agrees kept
  have takes : s.takeLegDone g tag data = if s.doneAgrees x.ref data then
      ((State.count (s.setSeg g { (s.seg g).unsent tag with failures := 0 }) (segCounter g .legsDone)).legOutcome x.ref
        (.done (s.doneData x.ref data))).offerRise g
      else s.corrupt g := by
    rw [State.takeLegDone, if_pos ((carries_iff _).2 carries), found]
  rw [doneData_eq names] at takes
  simp only [exec, execLegDone, State.live_eq_true released, if_true, takes]
  exact ⟨fun agree => by rw [if_pos ((doneAgrees_iff names data).2 agree)]; rfl,
    fun differ => by rw [if_neg (mt (doneAgrees_iff names data).1 differ)]; rfl⟩

/-- Settles O34: a LEG_REFUSED of a sent leg fails it with DEVICE_REFUSED. -/
theorem legRefused : Obligations.LegRefused := by
  intro s g tag code x released carries found
  simp only [exec, execLegRefused, State.live_eq_true released, if_true, State.takeLegRefused,
    if_pos ((carries_iff _).2 carries), found]
  rfl

section
variable {s : State} {g : SegId}

theorem takeLegDone_stray {tag : LegTag}
    (stray : ¬ (s.seg g).state.carries = true ∨ ∀ x ∈ (s.seg g).sent, x.tag ≠ tag) (data : List Word) :
    s.takeLegDone g tag data = s.stray g := by
  unfold State.takeLegDone
  split
  · rename_i carries
    rw [sentUnder?_eq_none (stray.resolve_left (not_not_intro carries))]
  · rfl

theorem takeLegRefused_stray {tag : LegTag}
    (stray : ¬ (s.seg g).state.carries = true ∨ ∀ x ∈ (s.seg g).sent, x.tag ≠ tag) (code : Byte) :
    s.takeLegRefused g tag code = s.stray g := by
  unfold State.takeLegRefused
  split
  · rename_i carries
    rw [sentUnder?_eq_none (stray.resolve_left (not_not_intro carries))]
  · rfl

theorem takeProbeReply_stray {tag : LegTag} (stray : ∀ n y, (s.seg g).state ≠ .probing tag n y) :
    s.takeProbeReply g tag = s.stray g := by
  unfold State.takeProbeReply
  split
  · rename_i out n y probing
    refine if_neg fun same => stray n y ?_
    rw [same, probing]
  · rfl

end

/-- Settles O35: a stray frame and a corrupt frame are counted; an intact frame does what its row does. -/
theorem strayAndCorruptFrames : Obligations.StrayAndCorruptFrames := by
  intro s g released carries stray
  have running := State.live_eq_true released
  refine ⟨fun tag data none => ?_, fun tag code none => ?_, fun tag none => ?_, fun source none => ?_,
    fun words corrupt => ?_, fun words u intact => ?_⟩
  · rw [show carries ↔ _ from (carries_iff _).symm] at none
    simp only [exec, execLegDone, running, if_true, takeLegDone_stray none]
    rfl
  · rw [show carries ↔ _ from (carries_iff _).symm] at none
    simp only [exec, execLegRefused, running, if_true, takeLegRefused_stray none]
    rfl
  · simp only [exec, execProbeReply, running, if_true, takeProbeReply_stray none]
    rfl
  · simp only [exec, execAttnReport, running, if_true, State.takeAttnReport, if_neg (mt (carries_iff _).1 none)]
    rfl
  · simp only [exec, execCorruptFrame, running, if_true, State.takeUpstream, corrupt]
    rfl
  · simp only [exec, execCorruptFrame, State.takeUpstream, intact]
    cases u <;> rfl

/-! ## Reports -/

/-- Settles O42: the four rows of the table of R155. -/
theorem attentionReportTaken : Obligations.AttentionReportTaken := by
  intro s g source released carries q v
  have takes : exec (.attnReport g source) s = .next ((s.takeReport g source).finish s) := by
    simp only [exec, execAttnReport, State.live_eq_true released, if_true, State.takeAttnReport,
      if_pos ((carries_iff _).2 carries)]
  rw [takes]
  refine ⟨fun known => ?_, fun empty => ?_, fun new some few => ?_, fun new full => ?_⟩
  · rw [State.takeReport, if_pos known]
  · have empty : (s.seg g).attention = [] := empty
    simp [State.takeReport, empty, Config.attentionCapacity, v, q]
  · have few : (s.seg g).attention.length < Config.attentionCapacity := few
    have some : (s.seg g).attention.isEmpty = false := by simpa using some
    simp only [State.takeReport, if_neg (show ¬ source ∈ (s.seg g).attention from new), if_pos few, some]
    rfl
  · have full : ¬ (s.seg g).attention.length < Config.attentionCapacity := Nat.not_lt.2 full
    simp only [State.takeReport, if_neg (show ¬ source ∈ (s.seg g).attention from new), if_neg full]

/-! ## Faults, probing and line reset -/

theorem leaveFor_of_carries {s : State} {g : SegId} (carries : (s.seg g).state.carries = true) (target : SegState)
    (reason : FailureReason) : s.leaveFor g target reason = s.outOfService g target reason := if_pos carries

theorem leaveFor_of_not_carries {s : State} {g : SegId} (silent : ¬ (s.seg g).state.carries = true) (target : SegState)
    (reason : FailureReason) : s.leaveFor g target reason = s.setSeg g { s.seg g with state := target } := if_neg silent

/-- Settles O39: FAULTED is entered out of service from ACTIVE or REJOINING, and by the state alone from PROBING. -/
theorem segmentFaults : Obligations.SegmentFaults := by
  refine ⟨fun s g carries => ?_, fun s g tag n y probing => ?_, fun _ _ _ => rfl⟩
  · rw [State.fault, leaveFor_of_carries ((carries_iff _).2 carries)]
  · rw [State.fault, leaveFor_of_not_carries (by simp [probing, SegState.carries])]

/-- Settles O40: a matched PROBE_REPLY, a probe timeout, and the end of a line reset. -/
theorem probingAndLineReset : Obligations.ProbingAndLineReset := by
  refine ⟨fun s g tag n y released probing => ?_, fun s g tag n y released probing clock => ?_,
    fun s g n released resetting clock => ?_, fun s g none => ?_, fun s g none => ?_⟩
  · simp only [exec, execProbeReply, State.live_eq_true released, if_true, State.takeProbeReply, probing]
  · intro e c
    have expires : exec (.probeTimeout g) s = .next ((e.probeExpired g y).finish e) := by
      simp only [exec, execProbeTimeout, State.live_eq_true released, probing, runOut_eq clock, e]
    have failures : c.failures = (s.seg g).failures := by simp [c, e, SegCtl.elapse]
    have threshold : c.faultThreshold = (s.seg g).faultThreshold := by simp [c, e, SegCtl.elapse]
    rw [expires, State.probeExpired, ← failures, ← threshold]
    simp only [State.seg_setSeg_self, State.sendProbe, State.setSeg_setSeg]
    refine ⟨fun reached => ?_, fun below => ?_⟩
    · rw [if_pos reached]
    · rw [if_neg (Nat.not_le.2 below)]
  · simp only [exec, execLineResetExpiry, State.live_eq_true released, resetting, runOut_eq clock]
  · simp only [exec, execProbeTimeout]
    split
    · exact absurd ‹(s.seg g).state = _› (none _ _ _)
    · rfl
  · simp only [exec, execLineResetExpiry]
    split
    · exact absurd ‹(s.seg g).state = _› (none _)
    · rfl

end Sys2Proof.Machine
end

section

/-! A leg timer's expiry and the rewind (R114 to R117). -/

namespace Sys2Proof.Machine

theorem DataEntry.mapIdx_same (d : DataEntry) : { d with legs := d.legs.mapIdx fun _ l => l } = d := by
  rw [show (d.legs.mapIdx fun _ l => l) = d.legs from List.ext_getElem (by simp) (by simp)]

namespace State

/-- R114. -/
theorem resendable_iff (s : State) (x : LegRef) : s.resendable x = true ↔
    ∃ d l, s.leg? x = some (d, l) ∧ d.phase = .pending ∧ d.supersededOn (s.windowOf d) l.seg = false := by
  unfold resendable
  split
  · rename_i d l names
    simp [names]
  · rename_i none
    simp [none]

/-! ## The rewind -/

theorem updateLeg_seg (s : State) (x : LegRef) (f : Leg → Leg) (g : SegId) : (s.updateLeg x f).seg g = s.seg g := by
  unfold updateLeg
  split <;> rfl

theorem updateLeg_eq_setTable (s : State) (x : LegRef) (f : Leg → Leg) :
    s.updateLeg x f = { s with tt := (s.updateLeg x f).tt } := by
  unfold updateLeg
  split <;> rfl

theorem foldl_updateLeg_eq_setTable (refs : List LegRef) (f : Leg → Leg) (s : State) :
    refs.foldl (fun u x => u.updateLeg x f) s
      = { s with tt := (refs.foldl (fun u x => u.updateLeg x f) s).tt } := by
  induction refs generalizing s with
  | nil => rfl
  | cons x refs ih =>
    rw [List.foldl_cons, ih, updateLeg_eq_setTable s x f]

theorem updateLeg_setSeg (s : State) (g : SegId) (c : SegCtl) (x : LegRef) (f : Leg → Leg) :
    (s.setSeg g c).updateLeg x f = (s.updateLeg x f).setSeg g c := by
  simp only [updateLeg, setSeg_entry]
  split <;> rfl

theorem foldl_updateLeg_setSeg (refs : List LegRef) (f : Leg → Leg) (s : State) (g : SegId) (c : SegCtl) :
    refs.foldl (fun u x => u.updateLeg x f) (s.setSeg g c)
      = (refs.foldl (fun u x => u.updateLeg x f) s).setSeg g c := by
  induction refs generalizing s with
  | nil => rfl
  | cons x refs ih => rw [List.foldl_cons, updateLeg_setSeg, ih, List.foldl_cons]

theorem foldl_updateLeg_seg (refs : List LegRef) (f : Leg → Leg) (s : State) (g : SegId) :
    (refs.foldl (fun u x => u.updateLeg x f) s).seg g = s.seg g := by
  rw [foldl_updateLeg_eq_setTable]
  rfl

theorem updateLeg_entry_of_not_data {t : Tag} {s : State} (none : ∀ d, s.entry t ≠ .data d) (x : LegRef) (f : Leg → Leg) :
    (s.updateLeg x f).entry t = s.entry t := by
  unfold updateLeg
  split
  · rename_i d e
    exact entry_setEntry_of_ne _ _ fun same => none d (same ▸ e)
  · rfl

theorem updateLeg_entry_of_data {t : Tag} {s : State} {d : DataEntry} (e : s.entry t = .data d) (x : LegRef)
    (f : Leg → Leg) : (s.updateLeg x f).entry t = .data { d with
      legs := d.legs.mapIdx fun i l => if (⟨t, i⟩ : LegRef) = x then f l else l } := by
  obtain ⟨u, i⟩ := x
  by_cases same : t = u
  · subst same
    simp only [updateLeg, e, entry_setEntry_self, Entry.data.injEq, LegRef.mk.injEq, true_and]
    congr 1
    refine List.ext_getElem (by simp) fun j _ _ => ?_
    simp only [List.getElem_modify, List.getElem_mapIdx, eq_comm]
  · have untouched : (s.updateLeg ⟨u, i⟩ f).entry t = s.entry t := by
      unfold updateLeg
      split
      · exact entry_setEntry_of_ne _ _ same
      · rfl
    simp [untouched, e, same, d.mapIdx_same]

theorem foldl_updateLeg_of_not_data {t : Tag} (refs : List LegRef) (f : Leg → Leg) {s : State}
    (none : ∀ d, s.entry t ≠ .data d) : (refs.foldl (fun u x => u.updateLeg x f) s).entry t = s.entry t := by
  induction refs generalizing s with
  | nil => rfl
  | cons x refs ih =>
    have kept := updateLeg_entry_of_not_data none x f
    exact (ih (by rwa [kept])).trans kept

/-- Legs that change alike, each named once or more. -/
theorem foldl_updateLeg_of_data {t : Tag} (refs : List LegRef) {f : Leg → Leg} (idempotent : ∀ l, f (f l) = f l)
    {s : State} {d : DataEntry} (e : s.entry t = .data d) :
    (refs.foldl (fun u x => u.updateLeg x f) s).entry t = .data { d with
      legs := d.legs.mapIdx fun i l => if (⟨t, i⟩ : LegRef) ∈ refs then f l else l } := by
  induction refs generalizing s d with
  | nil => simpa [d.mapIdx_same] using e
  | cons x refs ih =>
    rw [List.foldl_cons, ih (updateLeg_entry_of_data e x f)]
    congr 2
    refine List.ext_getElem (by simp) fun i _ _ => ?_
    simp only [List.getElem_mapIdx, List.mem_cons]
    by_cases here : (⟨t, i⟩ : LegRef) = x <;> by_cases later : (⟨t, i⟩ : LegRef) ∈ refs <;> simp [here, later, idempotent]

/-- A rewind before its withdrawn legs are taken as outcomes (R116). -/
def rewound (s : State) (g : SegId) (front run : List SentLeg) : State :=
  let refs := run.map SentLeg.ref
  let again := refs.filter s.resendable
  let s' := s.setSeg g { s.seg g with sent := front, queue := again ++ (s.seg g).queue }
  let s' := again.foldl (fun u x => u.updateLeg x fun l => { l with state := .queued }) s'
  let s' := s'.count (segCounter g .rewinds)
  if (refs.filter fun x => !s.resendable x).isEmpty then s' else s'.rise g

theorem rewind_eq (s : State) (g : SegId) (front run : List SentLeg) : s.rewind g front run =
    State.offerRise (((run.map SentLeg.ref).filter fun x => !s.resendable x).foldl
      (fun u x => u.legOutcome x .withdrawn) (s.rewound g front run)) g := rfl

section
variable (s : State) (g : SegId) (front run : List SentLeg)

/-- The table of a rewind: its resendable legs are QUEUED again. -/
theorem rewound_entry (t : Tag) : (s.rewound g front run).entry t =
    (((run.map SentLeg.ref).filter s.resendable).foldl
      (fun u x => u.updateLeg x fun l => { l with state := .queued }) s).entry t := by
  unfold rewound
  dsimp only
  rw [foldl_updateLeg_setSeg]
  split <;> rfl

theorem rewound_seg (h : SegId) : (s.rewound g front run).seg h = if h = g then
    { s.seg g with
      sent := front, queue := (run.map SentLeg.ref).filter s.resendable ++ (s.seg g).queue
      risen := if (run.map SentLeg.ref).filter (fun x => !s.resendable x) = [] then (s.seg g).risen else true }
    else s.seg h := by
  unfold rewound
  dsimp only
  rw [foldl_updateLeg_setSeg]
  simp only [List.isEmpty_iff]
  split <;> simp only [rise, count_seg, seg_setSeg, foldl_updateLeg_seg, if_true]
  split <;> rfl

theorem rewound_rest : s.rewound g front run = State.count
      { s.rewound g front run with cb := s.cb, au := s.au } (segCounter g .rewinds) ∧
    (s.rewound g front run).tp = s.tp ∧ (s.rewound g front run).wb = s.wb ∧
    (s.rewound g front run).pins = s.pins ∧ (s.rewound g front run).pending = s.pending := by
  unfold rewound
  dsimp only
  rw [foldl_updateLeg_eq_setTable]
  split <;> exact ⟨rfl, rfl, rfl, rfl, rfl⟩

end

end State

/-- Settles O37: the run's resendable legs return to the head of the queue; the rest are withdrawn. -/
theorem rewindRequeues : Obligations.RewindRequeues := by
  refine ⟨State.resendable_iff, fun s g front run => ⟨s.rewound g front run, ?_⟩⟩
  intro refs gone
  obtain ⟨counted, tp, wb, pins, pending⟩ := s.rewound_rest g front run
  refine ⟨s.rewind_eq g front run, counted, tp, wb, pins, pending, s.rewound_seg g front run, fun t none => ?_,
    fun t d e => ?_⟩
  · rw [State.rewound_entry]
    exact State.foldl_updateLeg_of_not_data _ _ none
  · rw [State.rewound_entry]
    exact State.foldl_updateLeg_of_data (f := fun l => { l with state := .queued }) _ (fun _ => rfl) e

/-! ## The expiry -/

section
variable {s : State} {x : LegRef} {d : DataEntry} {l : Leg} (names : s.leg? x = some (d, l))
include names

theorem timeoutsOf_eq : s.timeoutsOf x = l.timeouts := by rw [State.timeoutsOf, names]

theorem retryLimit_eq : s.retryLimit x = (s.windowOf d).retryLimit.toNat := by rw [State.retryLimit, names]

theorem resendable_eq : s.resendable x = true ↔
    d.phase = .pending ∧ d.supersededOn (s.windowOf d) l.seg = false := by
  rw [State.resendable_iff]
  constructor
  · rintro ⟨d', l', names', rest⟩
    cases names.symm.trans names'
    exact rest
  · exact fun rest => ⟨d, l, names, rest⟩

/-- A changed leg is the one its reference then names. -/
theorem leg?_setEntry_set (m : Leg) : (s.setEntry x.entry (.data { d with legs := d.legs.set x.index m })).leg? x
    = some ({ d with legs := d.legs.set x.index m }, m) := by
  obtain ⟨-, here⟩ := leg?_some names
  have below := (List.getElem?_eq_some_iff.1 here).1
  simp [State.leg?, below]

end

/-- The state of a leg timer's expiry once its counts have risen (R115). -/
def State.expired (e : State) (g : SegId) (x : LegRef) (d : DataEntry) (l : Leg) : State :=
  State.count ((e.setSeg g { e.seg g with failures := (e.seg g).failures + 1 }).setEntry x.entry
    (.data { d with legs := d.legs.set x.index { l with timeouts := l.timeouts + 1 } })) (segCounter g .legTimeouts)

section
variable {e : State} {g : SegId} {x : SentLeg} {d : DataEntry} {l : Leg} (names : e.leg? x.ref = some (d, l))
include names

theorem legExpired_eq :
    let v := e.expired g x.ref d l
    e.legExpired g x =
      if (e.seg g).faultThreshold ≤ (e.seg g).failures + 1 then v.fault g
      else if d.phase = .pending ∧ d.supersededOn (e.windowOf d) l.seg = false ∧
          l.timeouts + 1 ≤ (e.windowOf d).retryLimit.toNat then
        v.rewind g ((e.seg g).sent.takeWhile fun y => y.tag != x.tag) ((e.seg g).sent.dropWhile fun y => y.tag != x.tag)
      else v.failTimeout g x := by
  intro v
  have counts : (let s := e.updateLeg x.ref fun l => { l with timeouts := l.timeouts + 1 }
      let s := s.setSeg g { s.seg g with failures := (s.seg g).failures + 1 }
      s.count (segCounter g .legTimeouts)) = v := by
    rw [updateLeg_eq names]
    rfl
  have segment : v.seg g = { e.seg g with failures := (e.seg g).failures + 1 } := State.seg_setSeg_self ..
  have leg : v.leg? x.ref = some ({ d with legs := d.legs.set x.ref.index { l with timeouts := l.timeouts + 1 } },
      { l with timeouts := l.timeouts + 1 }) := leg?_setEntry_set names _
  unfold State.legExpired
  dsimp only at counts ⊢
  rw [counts, segment, timeoutsOf_eq leg, retryLimit_eq leg]
  simp only [Bool.and_eq_true, decide_eq_true_eq, resendable_eq leg, and_assoc]
  rfl

end

/-- Settles O36: a leg timer's expiry faults the segment, rewinds the run, or fails the leg with TIMEOUT. -/
theorem legTimerExpiry : Obligations.LegTimerExpiry := by
  refine ⟨?_, fun s g tag none => ?_⟩
  · intro s g tag x d l released found clock names e sent m v reached again
    have tagged : x.tag = tag := by simpa using List.find?_some found
    have expires : exec (.legTimerExpiry g tag) s = .next ((e.legExpired g x).finish e) := by
      simp only [exec, execLegTimerExpiry, State.live_eq_true released, found, runOut_eq clock, e]
    have threshold : (e.seg g).faultThreshold = (s.seg g).faultThreshold := by simp [e, SegCtl.elapse]
    have failures : (e.seg g).failures = (s.seg g).failures := by simp [e, SegCtl.elapse]
    have counts : e.expired g x.ref d l = v := by rw [State.expired, failures]
    have namesNow : e.leg? x.ref = some (d, l) := names
    have window : e.windowOf d = s.windowOf d := rfl
    rw [expires, legExpired_eq namesNow, counts, threshold, failures, tagged, window]
    refine ⟨fun atThreshold => ?_, fun below resend => ?_, fun below last => ?_⟩
    · rw [if_pos atThreshold]
    · rw [if_neg below, if_pos (show _ ∧ _ from resend)]
    · have segment : (v.seg g).sent = sent := by
        rw [show v.seg g = _ from State.seg_setSeg_self ..]
      rw [if_neg below, if_neg (show ¬ (_ ∧ _) from last), State.failTimeout, SegCtl.unsent, segment, tagged]
  · simp only [exec, execLegTimerExpiry, sentUnder?_eq_none none]
    split
    · rename_i found
      cases found
    · rfl

end Sys2Proof.Machine
end

section

/-! Windows and admission: the decode (R7 to R16), validity (R18), and the legged segments (R39, R63 to R65, R79,
R90). -/

namespace Sys2Proof.Machine

/-! ## Decode -/

/-- The access check (R10), as a table. -/
theorem WindowRecord.allows_eq (w : WindowRecord) (isWrite : Bool) : w.allows isWrite = match w.access with
    | .readWrite => true
    | .readOnly => !isWrite
    | .writeOnly => isWrite
    | .undefined => false := by
  cases access : w.access <;> cases isWrite <;> simp [WindowRecord.allows, access, Access.allowsRead, Access.allowsWrite]

theorem WindowBanks.lookup_eq_none {b : WindowBanks} {a : Word} (none : ∀ w, (b.record b.active w).offset? a = Option.none) :
    b.lookup a = Option.none := by
  simp [WindowBanks.lookup, List.findSome?_eq_none_iff, none]

theorem WindowBanks.lookup_eq_some {b : WindowBanks} {a : Word} {w : WindowId} {o : Nat}
    (found : (b.record b.active w).offset? a = some o) (lowest : ∀ v, v < w → (b.record b.active v).offset? a = none) :
    b.lookup a = some (w, o) :=
  findSome_lowest allTags_rising (mem_allTags w) (by simp [found]) fun v _ below => by simp [lowest v below]

/-- Settles O16: the lowest window of the active bank that matches decides, by its access and then its boundary. -/
theorem lowestWindowDecodes : Obligations.LowestWindowDecodes := by
  intro b isWrite a n
  refine ⟨fun none => ?_, fun w o found lowest => ?_⟩
  · rw [WindowBanks.decode, WindowBanks.lookup_eq_none none]
  · intro r allowed
    have decodes : b.decode isWrite a n = if allowed then match r.parts? o n with
        | some ps => .hit b.active w o ps
        | none => .boundary w
      else .access w := by
      rw [WindowBanks.decode, WindowBanks.lookup_eq_some found lowest]
      simp only [WindowRecord.allows_eq]
      rfl
    rw [decodes]
    exact ⟨fun refused => by simp [refused], fun granted none => by simp [granted, none],
      fun ps granted some => by simp [granted, some]⟩

/-! ## Parts -/

namespace WindowRecord
variable {w : WindowRecord}

theorem parts?_of_fits {o n : Nat} (fits : o + n ≤ w.size) :
    w.parts? o n = some { first := ⟨w.segAddr o, n⟩, second := none } := if_pos fits

theorem parts?_of_wraps {o n : Nat} (past : w.size < o + n) (wrap : w.boundary = .wrap) : w.parts? o n = some
    { first := ⟨w.segAddr o, w.size - o⟩, second := some ⟨w.segAddr 0, o + n - w.size⟩ } := by
  rw [parts?, if_neg (Nat.not_le.2 past), wrap]

theorem parts?_of_refuses {o n : Nat} (past : w.size < o + n) (refuse : w.boundary = .refuse) : w.parts? o n = none := by
  rw [parts?, if_neg (Nat.not_le.2 past), refuse]

/-- A valid record's window has 16 to 65,536 words (R18). -/
theorem size_bounds_of_valid (enabled : w.enabled = true) (valid : w.valid = true) : 16 ≤ w.size ∧ w.size ≤ 65536 := by
  have holds : ∀ c ∈ w.conditions, c = true := ((valid_iff w).1 valid).resolve_left (by simp [enabled])
  have exponent := holds (4 ≤ w.k.toNat && w.k.toNat ≤ 16) (by simp [conditions])
  simp only [Bool.and_eq_true, decide_eq_true_eq] at exponent
  exact ⟨Nat.pow_le_pow_right (n := 2) (by decide) exponent.1, Nat.pow_le_pow_right (n := 2) (by decide) exponent.2⟩

/-- A position in a window of at most 65,536 words keeps its page's segment address. -/
theorem segAddr_toNat {position : Nat} (below : position < 65536) :
    (w.segAddr position).toNat = w.page.toNat * 65536 + position := by
  have page := w.page.isLt
  rw [segAddr, BitVec.toNat_ofNat, Nat.mod_eq_of_lt (by omega)]

end WindowRecord

/-- Settles O17: the parts of a request, and the segment address of each of its words. -/
theorem partsFormed : Obligations.PartsFormed := by
  refine ⟨fun w o n => ⟨WindowRecord.parts?_of_fits, WindowRecord.parts?_of_wraps, WindowRecord.parts?_of_refuses⟩, ?_⟩
  intro w o n ps data enabled valid inside some few words formed
  obtain ⟨sixteen, large⟩ := WindowRecord.size_bounds_of_valid enabled valid
  by_cases fits : o + n ≤ w.size
  · rw [WindowRecord.parts?_of_fits fits] at formed
    cases formed
    refine ⟨some, by simp, by simp [Parts.numbers, Parts.wordsOf, ← words], fun p on i below => ?_⟩
    obtain rfl : p = .one := by simpa [Parts.numbers] using on
    replace below : i < n := below
    rw [if_pos rfl, Nat.mod_eq_of_lt (by omega)]
    refine ⟨?_, ?_⟩
    · rw [show (Parts.get _ PartNo.one).start = w.segAddr o from rfl, WindowRecord.segAddr_toNat (by omega), Nat.add_assoc]
    · simp [Parts.wordsOf, below]
  · cases boundary : w.boundary with
    | refuse => simp [WindowRecord.parts?_of_refuses (Nat.not_le.1 fits) boundary] at formed
    | wrap =>
      rw [WindowRecord.parts?_of_wraps (Nat.not_le.1 fits) boundary] at formed
      cases formed
      refine ⟨Nat.le_sub_of_add_le (by omega), ?_, by simp [Parts.numbers, Parts.wordsOf], fun p on i below => ?_⟩
      · rintro _ ⟨⟩
        show 1 ≤ o + n - w.size
        omega
      · cases p with
        | one =>
          replace below : i < w.size - o := below
          rw [if_pos rfl, Nat.mod_eq_of_lt (by omega)]
          refine ⟨?_, ?_⟩
          · rw [show (Parts.get _ PartNo.one).start = w.segAddr o from rfl, WindowRecord.segAddr_toNat (by omega),
              Nat.add_assoc]
          · simp only [Parts.wordsOf, List.getElem?_take, if_pos below]
        | two =>
          replace below : i < o + n - w.size := below
          have wraps : o + (w.size - o + i) = w.size + i := by omega
          rw [if_neg (by decide), wraps, Nat.add_mod_left, Nat.mod_eq_of_lt (by omega)]
          refine ⟨?_, ?_⟩
          · rw [show (Parts.get _ PartNo.two).start = w.segAddr 0 from rfl, WindowRecord.segAddr_toNat (by omega),
              Nat.add_zero]
          · simp [Parts.wordsOf]

/-! ## Validity -/

namespace WindowRecord

/-- The conditions of R18 by number, as the spec words them. -/
def Holds (w : WindowRecord) (n : Nat) : Prop :=
  let reads := w.access = .readWrite ∨ w.access = .readOnly
  let writes := w.access = .readWrite ∨ w.access = .writeOnly
  let length := w.readLength.toNat
  match n with
  | 1 => 4 ≤ w.k.toNat ∧ w.k.toNat ≤ 16
  | 2 => w.k.toNat ≤ w.p.toNat ∧ w.p.toNat ≤ 32
  | 3 => w.base.toNat < 2 ^ w.p.toNat ∧ 2 ^ w.k.toNat ∣ w.base.toNat
  | 4 => w.access ≠ .undefined
  | 5 => writes → w.writeSet ≠ 0
  | 6 => reads → (w.readMode = .preferred → 1 ≤ length ∧ length ≤ 4) ∧
      (w.readMode = .vote → length = 2 ∨ length = 3) ∧
      ∀ i j : Fin 4, i < j → j.val < length → w.readList[i] ≠ w.readList[j]
  | 7 => w.retryLimit.toNat ≤ 3
  | _ => True

variable (w : WindowRecord)

theorem members_nodup_iff : w.members.Nodup ↔
    ∀ i j : Fin 4, i < j → j.val < w.readLength.toNat → w.readList[i] ≠ w.readList[j] := by
  rw [members, List.nodup_iff_pairwise_ne, List.pairwise_iff_getElem]
  constructor
  · intro differ i j before below
    have at' := differ i.val j.val (by simp; omega) (by simp; omega) before
    simpa using at'
  · intro differ i j hi hj before
    simp only [List.length_take, Vector.length_toList, Nat.lt_min] at hi hj
    simpa using differ ⟨i, hi.2⟩ ⟨j, hj.2⟩ before hj.1

theorem readListWellFormed_iff : w.readListWellFormed = true ↔
    (w.readMode = .preferred → 1 ≤ w.readLength.toNat ∧ w.readLength.toNat ≤ 4) ∧
    (w.readMode = .vote → w.readLength.toNat = 2 ∨ w.readLength.toNat = 3) ∧
    ∀ i j : Fin 4, i < j → j.val < w.readLength.toNat → w.readList[i] ≠ w.readList[j] := by
  rw [← members_nodup_iff]
  cases mode : w.readMode <;> simp [readListWellFormed, mode]

theorem allowsRead_iff (a : Access) : a.allowsRead = true ↔ a = .readWrite ∨ a = .readOnly := by cases a <;> decide

theorem allowsWrite_iff (a : Access) : a.allowsWrite = true ↔ a = .readWrite ∨ a = .writeOnly := by cases a <;> decide

/-- The model's conditions, in order, are those of the spec. -/
theorem conditions_holds (j : Nat) (below : j < w.conditions.length) : w.conditions[j] = true ↔ w.Holds (j + 1) := by
  have numbers : j = 0 ∨ j = 1 ∨ j = 2 ∨ j = 3 ∨ j = 4 ∨ j = 5 ∨ j = 6 := by
    rw [show w.conditions.length = 7 from rfl] at below
    omega
  rcases numbers with rfl | rfl | rfl | rfl | rfl | rfl | rfl
  · simp [conditions, Holds]
  · simp [conditions, Holds]
  · simp [conditions, Holds, Nat.dvd_iff_mod_eq_zero]
  · simp [conditions, Holds]
  · simp only [conditions, Holds, ← allowsWrite_iff]
    simp [imp_iff_not_or]
  · simp only [conditions, Holds, ← allowsRead_iff, ← readListWellFormed_iff]
    simp [imp_iff_not_or]
  · simp [conditions, Holds]

theorem holds_of_no_condition {n : Nat} (none : n = 0 ∨ 7 < n) : w.Holds n := by
  unfold Holds
  split <;> trivial

/-- The first condition that fails gives the ordinal. -/
theorem firstFailure?_eq_some_iff (enabled : w.enabled = true) (n : Nat) : w.firstFailure? = some n ↔
    1 ≤ n ∧ n ≤ 7 ∧ ¬ w.Holds n ∧ ∀ m, m < n → w.Holds m := by
  have length : w.conditions.length = 7 := rfl
  simp only [firstFailure?, enabled, if_true, Option.map_eq_some_iff, List.findIdx?_eq_some_iff_getElem,
    Bool.not_eq_true', conditions_holds, ← Bool.not_eq_true]
  constructor
  · rintro ⟨j, ⟨below, fails, earlier⟩, rfl⟩
    refine ⟨by omega, by omega, fails, fun m before => ?_⟩
    cases m with
    | zero => exact w.holds_of_no_condition (.inl rfl)
    | succ m => exact not_not.1 (earlier m (by omega))
  · rintro ⟨low, high, fails, earlier⟩
    obtain ⟨j, rfl⟩ := Nat.exists_eq_add_of_le' low
    exact ⟨j, ⟨by omega, fails, fun m before => not_not_intro (earlier (m + 1) (by omega))⟩, rfl⟩

theorem firstFailure?_eq_none_iff (enabled : w.enabled = true) : w.firstFailure? = none ↔ ∀ n, w.Holds n := by
  have length : w.conditions.length = 7 := rfl
  simp only [firstFailure?, enabled, if_true, Option.map_eq_none_iff, List.findIdx?_eq_none_iff,
    List.forall_mem_iff_forall_getElem, Bool.not_eq_false', conditions_holds]
  constructor
  · intro holds n
    by_cases numbered : 1 ≤ n ∧ n ≤ 7
    · obtain ⟨j, rfl⟩ := Nat.exists_eq_add_of_le' numbered.1
      exact holds j (by omega)
    · exact w.holds_of_no_condition (by omega)
  · exact fun holds j _ => holds (j + 1)

end WindowRecord

/-- Settles O18: the seven conditions of an enabled record, and the first that fails. -/
theorem recordValidity : Obligations.RecordValidity := by
  intro w reads writes length holds
  exact ⟨fun disabled => by simp [WindowRecord.firstFailure?, disabled],
    fun enabled => ⟨w.firstFailure?_eq_none_iff enabled, w.firstFailure?_eq_some_iff enabled⟩,
    by simp [WindowRecord.valid]⟩

/-! ## Legged segments -/

theorem allSegs_rising : allSegs.Pairwise (· < ·) := by decide

theorem segsWhere_eq_zero_iff (f : SegId → Bool) : segsWhere f = 0 ↔ ∀ g, f g = false := by
  constructor
  · intro zero g
    rw [← hasSeg_segsWhere f g, zero]
    simp [hasSeg]
  · intro none
    refine BitVec.eq_of_getLsbD_eq fun i below => ?_
    have bit := hasSeg_segsWhere f ⟨i, below⟩
    rw [none, hasSeg] at bit
    simpa using bit

namespace State
variable (s : State) (w : WindowRecord)

theorem mem_eligible (g : SegId) : g ∈ s.eligible w ↔ hasSeg w.writeSet g = true ∧ (s.seg g).state.carries = true := by
  simp [eligible, mem_allSegs]

/-- Check 6 passes for a WRITE (R64, R65). -/
def LegsEnough : Prop :=
  match w.policy with
  | .strict => ∀ g, hasSeg w.writeSet g = true → (s.seg g).state.carries = true
  | .degraded => ∃ g, hasSeg w.writeSet g = true ∧ (s.seg g).state.carries = true

theorem leggedForWrite_of_enough (enough : s.LegsEnough w) (data : List Word) : s.leggedForWrite w data = some
    (.write data (segsWhere fun g => hasSeg w.writeSet g && !(s.seg g).state.carries), s.eligible w) := by
  unfold LegsEnough at enough
  refine if_pos ?_
  cases policy : w.policy with
  | strict =>
    simp only [policy] at enough
    refine beq_iff_eq.2 ((segsWhere_eq_zero_iff _).2 fun g => ?_)
    simpa using enough g
  | degraded =>
    simp only [policy] at enough
    obtain ⟨g, on⟩ := enough
    simpa using List.ne_nil_of_mem ((s.mem_eligible w g).2 on)

theorem leggedForWrite_of_few (few : ¬ s.LegsEnough w) (data : List Word) : s.leggedForWrite w data = none := by
  unfold LegsEnough at few
  refine if_neg fun passes => few ?_
  cases policy : w.policy with
  | strict =>
    simp only [policy] at passes ⊢
    have none := (segsWhere_eq_zero_iff _).1 (beq_iff_eq.1 passes)
    simpa using none
  | degraded =>
    simp only [policy] at passes ⊢
    obtain ⟨g, on⟩ := List.exists_mem_of_ne_nil (s.eligible w) (by simpa using passes)
    exact ⟨g, (s.mem_eligible w g).1 on⟩

variable {w}

theorem leggedForRead_preferred_none (mode : w.readMode = .preferred)
    (none : ∀ g ∈ w.members, (s.seg g).state ≠ .active) : s.leggedForRead w = Option.none := by
  have noMember : nextMember w.members Option.none s.isActive = Option.none :=
    nextMember_eq_none fun j h _ member => by simpa [isActive] using none h (List.mem_of_getElem? member)
  rw [leggedForRead, mode, noMember]
  rfl

theorem leggedForRead_preferred {i : Fin 4} {g : SegId} (mode : w.readMode = .preferred)
    (member : w.members[i.val]? = some g) (active : (s.seg g).state = .active)
    (lowest : ∀ j, j < i.val → ∀ h, w.members[j]? = some h → (s.seg h).state ≠ .active) :
    s.leggedForRead w = some (.preferred i none, [g]) := by
  have first : nextMember w.members Option.none s.isActive = some (i, g) :=
    nextMember_eq_some (by simp) member (by simp [isActive, active]) fun j h below _ found => by
      simpa [isActive] using lowest j below h found
  rw [leggedForRead, mode, first]
  rfl

end State

/-- Settles O19: the legged segments, ascending, and when they are enough. -/
theorem leggedSegments : Obligations.LeggedSegments := by
  intro s w eligible passes
  have carries : ∀ g, eligible g ↔ (s.seg g).state.carries = true := fun g => (carries_iff _).symm
  have enough : passes ↔ s.LegsEnough w := by
    simp only [passes, State.LegsEnough]
    cases w.policy <;> simp only [carries]
  refine ⟨fun data => ⟨fun few => s.leggedForWrite_of_few w (mt enough.2 few) data, fun pass =>
    ⟨_, _, s.leggedForWrite_of_enough w (enough.1 pass) data, allSegs_rising.filter _, fun g => ?_, fun g => ?_⟩⟩,
    fun mode => ⟨s.leggedForRead_preferred_none mode, fun i g => s.leggedForRead_preferred mode⟩, fun mode =>
    ⟨allSegs.filter fun g => w.members.contains g && s.isActive g, allSegs_rising.filter _, fun g => ?_, ?_⟩⟩
  · rw [State.mem_eligible, carries]
  · simp [carries]
  · simp [mem_allSegs, State.isActive]
  · rw [State.leggedForRead, mode]

end Sys2Proof.Machine
end

section

/-! READ, WRITE, FLUSH and CANCEL (R36 to R43, R52 to R56). -/

namespace Sys2Proof.Machine

/-! ## Admission -/

/-- Check 6 by the kind of the request (R39). -/
def State.leggedFor (s : State) (isWrite : Bool) (r : WindowRecord) (data : List Word) : Option (Request × List SegId) :=
  if isWrite = true then s.leggedForWrite r data else s.leggedForRead r

section
variable {s : State} {isWrite : Bool} {f : RxFrame}

theorem admission_inUse (inUse : s.entry f.tag ≠ .free) : s.admission isWrite f = .refuse .tagInUse 0 :=
  if_pos ((tagInUse_iff s f.tag).2 inUse)

variable (free : s.entry f.tag = .free)
include free

theorem admission_malformed (disagree : ¬ contentsAgree isWrite f = true) : s.admission isWrite f = .refuse .malformed 0 := by
  rw [State.admission, if_neg (by simp [tagInUse_false free]), if_pos (by simpa using disagree)]

variable (agree : contentsAgree isWrite f = true)
include agree

/-- Checks 3 to 7, once the tag is free and the contents agree (R37). -/
theorem admission_decodes : s.admission isWrite f = match s.wb.decode isWrite f.address f.count with
    | .noWindow => .refuse .noWindow 0
    | .access w => .refuse .access (toWord w.val)
    | .boundary w => .refuse .boundary (toWord w.val)
    | .hit bank w _ parts =>
      match s.leggedFor isWrite (s.wb.record bank w) f.data with
      | none => .refuse .segmentUnavailable (toWord w.val)
      | some (request, legged) =>
        if legged.all fun g => s.hasRoom g parts.count then
          .accept { phase := .pending, bank := bank, window := w, parts := parts, request := request, legs := [] } legged
        else .refuse .busy (toWord w.val) := by
  rw [State.admission, if_neg (by simp [tagInUse_false free]), if_neg (by simp [agree])]
  rfl

end

theorem hasRoom_iff (s : State) (g : SegId) (n : Nat) : s.hasRoom g n = true ↔
    n ≤ s.freeSlots g ∧ ∀ t d, s.entry t = .data d → d.waiting ≠ some g := by
  rw [State.hasRoom, Bool.and_eq_true, decide_eq_true_eq, Bool.not_eq_true', ← Bool.not_eq_true, segmentHeld_iff]
  simp only [not_exists, not_and, ne_eq]

theorem exec_dataCommand {c : Instr} {row : TakenRow} {isWrite : Bool} (command : DataCommand c row isWrite) {s : State}
    {f : RxFrame} {rest : List RxFrame} (takes : Takes s row f rest) :
    exec c s = .next (((s.taken rest).admitRequest isWrite f).finish s) := by
  cases command <;> exact takes.exec_eq rfl

theorem admitRequest_refuse {s : State} {isWrite : Bool} {f : RxFrame} {status : Status} {detail : Word}
    (refused : s.admission isWrite f = .refuse status detail) :
    s.admitRequest isWrite f = s.refuseRequest f status detail := by
  rw [State.admitRequest, refused]

/-- Settles O20: a request is answered by the first check it fails. -/
theorem requestRefused : Obligations.RequestRefused := by
  intro c row w s f rest command takes k agree
  have contents : agree ↔ contentsAgree w f = true := (contentsAgree_iff w f).symm
  have refusal : ∀ {status detail}, k.admission w f = .refuse status detail →
      exec c s = .next ((k.refuseRequest f status detail).finish s) := fun refused => by
    rw [exec_dataCommand command takes, admitRequest_refuse refused]
  refine ⟨fun inUse => refusal (admission_inUse inUse), fun free =>
    ⟨fun disagree => refusal (admission_malformed free (mt contents.2 disagree)), fun agrees => ?_⟩⟩
  have decodes : k.admission w f = _ := admission_decodes free (contents.1 agrees)
  refine ⟨fun none => ?_, fun i access => ?_, fun i boundary => ?_, fun bank i o ps hit => ?_⟩
  · rw [show k.wb.decode w f.address f.count = .noWindow from none] at decodes
    exact refusal decodes
  · rw [show k.wb.decode w f.address f.count = .access i from access] at decodes
    exact refusal decodes
  · rw [show k.wb.decode w f.address f.count = .boundary i from boundary] at decodes
    exact refusal decodes
  · rw [show k.wb.decode w f.address f.count = .hit bank i o ps from hit] at decodes
    refine ⟨fun none => ?_, fun request legged legs full => ?_⟩
    · dsimp only at decodes
      rw [show k.leggedFor w (k.wb.record bank i) f.data = Option.none from none] at decodes
      exact refusal decodes
    · dsimp only at decodes
      rw [show k.leggedFor w (k.wb.record bank i) f.data = some (request, legged) from legs] at decodes
      have short : ¬ (legged.all fun g => k.hasRoom g ps.count) = true := by
        intro room
        obtain ⟨g, on, full⟩ := full
        obtain ⟨covers, noWaiter⟩ := (hasRoom_iff k g ps.count).1 (List.all_eq_true.1 room g on)
        rcases full with few | ⟨t, d, e, waits⟩
        · exact absurd covers (Nat.not_le.2 few)
        · exact noWaiter t d e waits
      exact refusal (decodes.trans (if_neg short))

/-! ## Acceptance -/

/-- References to `n` legs of an entry from a position of its leg list on. -/
def refsFrom (t : Tag) (base n : Nat) : List LegRef := (List.range n).map fun i => { entry := t, index := base + i }

namespace State

/-- Nothing but the table and the segments differs. -/
structure SameButLegs (s u : State) : Prop where
  pins : u.pins = s.pins
  tp : u.tp = s.tp
  wb : u.wb = s.wb
  au : u.au = s.au
  cb : u.cb = s.cb
  pending : u.pending = s.pending

theorem SameButLegs.refl (s : State) : s.SameButLegs s := ⟨rfl, rfl, rfl, rfl, rfl, rfl⟩

theorem SameButLegs.trans {s u v : State} (first : s.SameButLegs u) (second : u.SameButLegs v) : s.SameButLegs v :=
  ⟨second.pins.trans first.pins, second.tp.trans first.tp, second.wb.trans first.wb, second.au.trans first.au,
    second.cb.trans first.cb, second.pending.trans first.pending⟩

theorem createLegs_sameButLegs (s : State) (t : Tag) (g : SegId) : s.SameButLegs (s.createLegs t g) := by
  unfold createLegs
  split <;> exact ⟨rfl, rfl, rfl, rfl, rfl, rfl⟩

/-- Fresh legs on several segments, none twice: the leg list grows by each segment's legs in turn, and each segment's
queue by the references to its own. -/
theorem foldl_createLegs {t : Tag} {legged : List SegId} (nodup : legged.Nodup) {s : State} {d : DataEntry}
    (e : s.entry t = .data d) :
    let r := legged.foldl (fun u g => u.createLegs t g) s
    s.SameButLegs r ∧
    r.entry t = .data { d with legs := d.legs ++ legged.flatMap fun g => d.parts.numbers.map (freshLeg g) } ∧
    (∀ u, u ≠ t → r.entry u = s.entry u) ∧
    ∀ g, r.seg g = if g ∈ legged then { s.seg g with
      queue := (s.seg g).queue ++ refsFrom t (d.legs.length + legged.idxOf g * d.parts.count) d.parts.count } else s.seg g := by
  induction legged generalizing s d with
  | nil => exact ⟨.refl s, by simpa using e, fun _ _ => rfl, fun _ => rfl⟩
  | cons h legged ih =>
    intro r
    obtain ⟨fresh, nodup⟩ := List.nodup_cons.1 nodup
    have first := createLegs_eq e h
    have entry : (s.createLegs t h).entry t = .data { d with legs := d.legs ++ d.parts.numbers.map (freshLeg h) } := by
      rw [first, setSeg_entry, entry_setEntry_self]
      rfl
    obtain ⟨frame, mine, others, segs⟩ := ih nodup entry
    rw [show legged.foldl (fun u g => u.createLegs t g) (s.createLegs t h) = r from rfl] at frame mine others segs
    refine ⟨(createLegs_sameButLegs s t h).trans frame, ?_, fun u ne => ?_, fun g => ?_⟩
    · simpa using mine
    · rw [others u ne, first, setSeg_entry, entry_setEntry_of_ne _ _ ne]
    · rw [segs g, first]
      simp only [seg_setSeg, setEntry_seg, List.length_append, List.length_map, numbers_length, List.mem_cons]
      by_cases here : g = h
      · simp [here, fresh, refsFrom]
      · have later : (h :: legged).idxOf g = legged.idxOf g + 1 := List.idxOf_cons_ne _ (Ne.symm here)
        have position : d.legs.length + (h :: legged).idxOf g * d.parts.count
            = d.legs.length + d.parts.count + legged.idxOf g * d.parts.count := by
          rw [later]
          ring
        simp only [here, if_false, false_or, position]

end State

theorem leggedFor_nodup {s : State} {isWrite : Bool} {w : WindowRecord} {data : List Word} {request : Request}
    {legged : List SegId} (legs : s.leggedFor isWrite w data = some (request, legged)) : legged.Nodup := by
  cases isWrite with
  | true => exact (Steps.leggedForWrite_ok legs).1
  | false => exact (Steps.leggedForRead_ok legs).1

/-- Settles O21: an accepted request opens its entry with its legs in its segments' queues. -/
theorem requestAccepted : Obligations.RequestAccepted := by
  intro c row w s f rest bank i o ps request legged command takes free low high contents hit legs room freshFor refsOn
  let k := s.taken rest
  let d : DataEntry := { phase := .pending, bank := bank, window := i, parts := ps, request := request, legs := [] }
  have accepts : k.admission w f = .accept d legged := by
    refine (admission_decodes (s := k) free ((contentsAgree_iff w f).2 ⟨low, high, contents⟩)).trans ?_
    rw [show k.wb.decode w f.address f.count = .hit bank i o ps from hit]
    dsimp only
    rw [show k.leggedFor w (k.wb.record bank i) f.data = some (request, legged) from legs]
    exact if_pos (List.all_eq_true.2 fun g on => (hasRoom_iff k g ps.count).2 (room g on))
  let u : State := (k.setEntry f.tag (.data d)).countIn bank
  obtain ⟨frame, mine, others, segs⟩ := State.foldl_createLegs (s := u) (t := f.tag) (d := d) (leggedFor_nodup legs)
    (State.entry_setEntry_self ..)
  refine ⟨legged.foldl (fun u g => u.createLegs f.tag g) u, ?_, mine, fun t ne => (others t ne).trans ?_, fun g =>
    (segs g).trans ?_, frame.wb, frame.tp, frame.au, frame.cb, frame.pins, frame.pending⟩
  · rw [exec_dataCommand command takes, State.admitRequest, accepts]
    rfl
  · exact State.entry_setEntry_of_ne _ _ ne
  · simp only [d, List.length_nil, Nat.zero_add]
    rfl

/-! ## FLUSH -/

theorem RxFrame.commandRow_ne_flush (f : RxFrame) : f.commandRow ≠ .flush := by
  unfold RxFrame.commandRow
  split <;> nofun

theorem RxFrame.cwriteRow_ne_flush (f : RxFrame) : f.cwriteRow ≠ .flush := by
  unfold RxFrame.cwriteRow
  dsimp only
  split_ifs <;> nofun

theorem RxFrame.kindCode_of_flush {f : RxFrame} (row : f.row = .flush) : f.kindCode = 0x03 := by
  have kind : f.structuralKind? = some .flush := by
    unfold RxFrame.row at row
    cases kind : f.structuralKind? with
    | none => simp [kind] at row
    | some k =>
      cases k <;> simp_all [RxFrame.commandRow_ne_flush, RxFrame.cwriteRow_ne_flush]
  unfold RxFrame.structuralKind? at kind
  split at kind
  · rename_i k named
    obtain ⟨-, same⟩ := Option.ite_none_right_eq_some.1 kind
    cases same
    exact (RequestKind.code_of_ofCode? named).symm
  · cases kind

theorem openTags_eq_nil {s : State} (none : ∀ t, s.entry t = .free) : s.openTags = [] :=
  List.eq_nil_iff_forall_not_mem.2 fun t on => (mem_openTags s t).1 on (none t)

/-- Settles O22: a FLUSH waits for every open entry. -/
theorem flush : Obligations.Flush := by
  intro s f rest takes k
  have runs : exec .flush s = .next ((k.takeFlush f).finish s) := takes.exec_eq rfl
  rw [runs]
  refine ⟨fun inUse => ?_, fun none => ?_, fun free open_ => ?_, RxFrame.kindCode_of_flush takes.row⟩
  · rw [State.takeFlush, if_pos ((tagInUse_iff k f.tag).2 inUse)]
    rfl
  · rw [State.takeFlush, tagInUse_false (s := k) (none f.tag), openTags_eq_nil (s := k) none]
    rfl
  · obtain ⟨t, isOpen⟩ := open_
    refine ⟨k.openTags, allTags_rising.filter _, mem_openTags k, ?_⟩
    rw [State.takeFlush, tagInUse_false (s := k) free]
    cases tags : k.openTags with
    | nil => exact absurd ((mem_openTags k t).2 isOpen) (by simp [tags])
    | cons u tags => rfl

/-! ## CANCEL -/

/-- Settles O23: a CANCEL's answer where its target is FREE, no longer PENDING, or FLUSHING. -/
theorem cancelAnswers : Obligations.CancelAnswers := by
  intro s f rest takes k
  have runs : exec .cancel s = .next ((k.takeCancel f).finish s) := takes.exec_eq rfl
  rw [runs]
  refine ⟨fun free => ?_, fun d e phase => ?_, fun barrier n e => ?_⟩
  · rw [State.takeCancel, show k.entry f.tag = .free from free]
    rfl
  · rw [State.takeCancel, show k.entry f.tag = .data d from e]
    rcases phase with phase | phase <;> simp only [phase] <;> rfl
  · rw [State.takeCancel, show k.entry f.tag = .flushing barrier n from e]
    rfl

end Sys2Proof.Machine
end

section

/-! The withdrawal of an entry's QUEUED legs (R54, R57), the CANCEL of a PENDING entry (R54, R55) and trunk loss in the
Transit Table (R57). -/

namespace Sys2Proof.Machine

/-- A leg that leaves its queue (R44). -/
def Leg.withdrawn (l : Leg) : Leg := { l with state := .withdrawn }

/-- The entry once its QUEUED legs are WITHDRAWN (R54, R57). -/
def DataEntry.withdrawn (d : DataEntry) : DataEntry :=
  { d with legs := d.legs.map fun l => if l.state = .queued then l.withdrawn else l }

@[simp] theorem DataEntry.dropWait_legs (d : DataEntry) : d.dropWait.legs = d.legs := by
  unfold dropWait
  split <;> rfl

theorem DataEntry.anySent_withdrawn (d : DataEntry) : d.withdrawn.anySent = d.legs.any fun l => l.state == .sent := by
  simp only [anySent, withdrawn, List.any_map]
  congr 1
  funext l
  simp only [Function.comp_apply]
  split
  · simp [Leg.withdrawn, *]
  · rfl

theorem DataEntry.dropWait_withdrawn (d : DataEntry) : d.withdrawn.dropWait = d.dropWait.withdrawn := by
  obtain ⟨phase, bank, window, parts, request, legs, noneLeft⟩ := d
  cases request <;> rfl

/-- The segment once an entry's QUEUED legs have left it. -/
def SegCtl.without (c : SegCtl) (t : Tag) : SegCtl := { c with queue := c.queue.filter fun r => r.entry != t }

namespace State
variable {s : State}

theorem SameButLegs.eq {s u v : State} (su : s.SameButLegs u) (sv : s.SameButLegs v) (tt : u.tt = v.tt)
    (segs : ∀ g, u.seg g = v.seg g) : u = v := by
  have sc : u.sc = v.sc := Vector.ext fun i below => segs ⟨i, below⟩
  obtain ⟨_, _, _, _, _, _, _, _⟩ := s
  obtain ⟨_, _, _, _, _, _, _, _⟩ := u
  obtain ⟨_, _, _, _, _, _, _, _⟩ := v
  obtain ⟨⟨⟩, ⟨⟩, ⟨⟩, ⟨⟩, ⟨⟩, ⟨⟩⟩ := su
  obtain ⟨⟨⟩, ⟨⟩, ⟨⟩, ⟨⟩, ⟨⟩, ⟨⟩⟩ := sv
  cases tt
  cases sc
  rfl

/-- The withdrawal from several segments, none twice. -/
theorem foldl_withdrawFrom {t : Tag} {gs : List SegId} (nodup : gs.Nodup) {s : State} {d : DataEntry}
    (e : s.entry t = .data d) :
    let r := gs.foldl (fun u g => u.withdrawFrom t g) s
    s.SameButLegs r ∧ r.tt = s.tt.set t (.data { d with legs := d.legs.mapIdx fun i l =>
      if ∃ g ∈ gs, (⟨t, i⟩ : LegRef) ∈ (s.seg g).queue then l.withdrawn else l }) ∧
    ∀ g, r.seg g = if g ∈ gs then (s.seg g).without t else s.seg g := by
  induction gs generalizing s d with
  | nil =>
    have same : s.tt.set t (.data d) = s.tt := by
      rw [← e]
      simp [entry]
    exact ⟨.refl s, by simp [d.mapIdx_same, same], fun _ => rfl⟩
  | cons h gs ih =>
    intro r
    obtain ⟨fresh, nodup⟩ := List.nodup_cons.1 nodup
    let v := (s.setEntry t (.data { d with legs := d.legs.mapIdx fun i l =>
      if (⟨t, i⟩ : LegRef) ∈ (s.seg h).queue then l.withdrawn else l })).setSeg h ((s.seg h).without t)
    have first : s.withdrawFrom t h = v := s.withdrawFrom_eq e h
    have other : ∀ g ∈ gs, v.seg g = s.seg g := fun g on => seg_setSeg_of_ne _ _ fun same => fresh (same ▸ on)
    obtain ⟨frame, table, segs⟩ := ih nodup (s := v) (by rw [setSeg_entry, entry_setEntry_self])
    rw [show gs.foldl (fun u g => u.withdrawFrom t g) v = r by rw [← first]; rfl] at frame table segs
    have start : s.SameButLegs v := ⟨rfl, rfl, rfl, rfl, rfl, rfl⟩
    refine ⟨start.trans frame, table.trans ?_, fun g => (segs g).trans ?_⟩
    · simp only [v, setSeg_tt, setEntry, Vector.set_set]
      congr 3
      refine List.ext_getElem (by simp) fun i _ _ => ?_
      have rest : (∃ g ∈ gs, (⟨t, i⟩ : LegRef) ∈ (v.seg g).queue) ↔ ∃ g ∈ gs, (⟨t, i⟩ : LegRef) ∈ (s.seg g).queue :=
        exists_congr fun g => and_congr_right fun on => by rw [other g on]
      simp only [List.getElem_mapIdx, List.mem_cons, exists_eq_or_imp, ← rest]
      by_cases here : (⟨t, i⟩ : LegRef) ∈ (s.seg h).queue
      · simp only [here, if_true, true_or]
        split <;> rfl
      · simp only [here, if_false, false_or]
        rfl
    · by_cases here : g = h
      · simp [here, fresh, v]
      · simp only [List.mem_cons, here, false_or, v, seg_setSeg_of_ne _ _ here, setEntry_seg]

/-- Under the legs' invariant the entry's QUEUED legs leave their queues, whichever these are. -/
theorem withdrawQueued_eq (placed : s.LegsPlaced) {t : Tag} {d : DataEntry} (e : s.entry t = .data d) :
    s.withdrawQueued t = setEntry { s with sc := s.sc.map fun c => c.without t } t (.data d.withdrawn) := by
  obtain ⟨frame, table, segs⟩ := foldl_withdrawFrom Steps.allSegs_nodup e
  have queued : ∀ i (below : i < d.legs.length),
      (∃ g ∈ allSegs, (⟨t, i⟩ : LegRef) ∈ (s.seg g).queue) ↔ d.legs[i].state = .queued := by
    intro i below
    have names : s.leg? ⟨t, i⟩ = some (d, d.legs[i]) := by simp [leg?, e, below]
    constructor
    · rintro ⟨g, -, on⟩
      obtain ⟨d', l', names', -, state⟩ := placed.queued g _ on
      cases names.symm.trans names'
      exact state
    · exact fun state => ⟨_, mem_allSegs _, (placed.all _ _ _ names).1 state⟩
  have legs : (d.legs.mapIdx fun i l => if ∃ g ∈ allSegs, (⟨t, i⟩ : LegRef) ∈ (s.seg g).queue then l.withdrawn else l)
      = d.withdrawn.legs := by
    refine List.ext_getElem (by simp [DataEntry.withdrawn]) fun i below _ => ?_
    simp only [List.getElem_mapIdx, DataEntry.withdrawn, List.getElem_map, queued i (by simpa using below)]
  refine frame.eq ⟨rfl, rfl, rfl, rfl, rfl, rfl⟩ (table.trans ?_) fun g => (segs g).trans ?_
  · rw [legs]
    rfl
  · simp [mem_allSegs, seg]

theorem LegsPlaced.queued_entry (placed : s.LegsPlaced) {g : SegId} {r : LegRef} (on : r ∈ (s.seg g).queue) :
    ∃ d, s.entry r.entry = .data d := by
  obtain ⟨d, l, names, -⟩ := placed.queued g r on
  exact ⟨d, (leg?_some names).1⟩

/-- A withdrawal with the wait dropped (R54, R57). -/
theorem withdrawQueued_dropWait (placed : s.LegsPlaced) {t : Tag} {d : DataEntry} (e : s.entry t = .data d) :
    (s.withdrawQueued t).dropWait t
      = setEntry { s with sc := s.sc.map fun c => c.without t } t (.data d.dropWait.withdrawn) := by
  rw [withdrawQueued_eq placed e, dropWait, entry_setEntry_self]
  dsimp only
  rw [setEntry_setEntry, DataEntry.dropWait_withdrawn]

end State

/-- Settles O24: a PENDING entry's QUEUED legs are withdrawn; it waits for its SENT legs, or is answered and freed. -/
theorem cancelPending : Obligations.CancelPending := by
  intro s f rest d takes placed entry pending e v rose u
  let k := s.taken rest
  have placedNow : k.LegsPlaced := ⟨placed.queued, placed.sent, placed.once, placed.all⟩
  have left : d.dropWait.withdrawn = e := by
    rw [DataEntry.withdrawn, DataEntry.dropWait_legs]
    rfl
  have sends : e.anySent = d.legs.any fun l => l.state == .sent := by
    rw [← left, DataEntry.anySent_withdrawn, DataEntry.dropWait_legs]
  have cancels : k.takeCancel f = (rose.foldl (fun w g => (w.rise g).offerRise g) u).answer f .accepted 0 := by
    rw [State.takeCancel, show k.entry f.tag = .data d from entry]
    dsimp only
    rw [pending]
    dsimp only
    rw [State.cancelPending, State.withdrawQueued_dropWait placedNow entry, left]
    simp only [State.entry_setEntry_self, sends]
    rfl
  rw [takes.exec_eq rfl, cancels]
  rfl

end Sys2Proof.Machine
end

section

/-! Where the legs stand (R44): one list per leg in flight, apart from legs already taken from their list whose outcome
is still to be recorded; and the small changes that outcomes, failovers and served waits are made of (R45 to R47, R81 to
R87). -/

namespace Sys2Proof.Machine

/-! ## Small changes -/

/-- A change of an open entry that takes no leg into flight or out of it, and begins no wait. -/
structure SettledMove (d d' : DataEntry) : Prop where
  phase : d'.phase = d.phase
  waiting : d'.waiting = none ∨ d'.waiting = d.waiting
  legs : ∃ f : Leg → Leg, d'.legs = d.legs.map f ∧
    ∀ l, (f l).seg = l.seg ∧ ((f l).state = l.state ∨ l.state.isDone = true ∧ (f l).state.isDone = true)

theorem SettledMove.of_legs {d d' : DataEntry} (phase : d'.phase = d.phase)
    (waiting : d'.waiting = none ∨ d'.waiting = d.waiting) (legs : d'.legs = d.legs) : SettledMove d d' :=
  ⟨phase, waiting, id, by simp [legs], fun _ => ⟨rfl, .inl rfl⟩⟩

/-- An entry that may be freed: no leg is SENT, and while it is PENDING none is QUEUED either (R46, R47). -/
def State.Freeable (s : State) (t : Tag) : Prop :=
  ∀ d, s.entry t = .data d → d.anySent = false ∧ (d.phase = .pending → d.anyInFlight = false)

/-- A PENDING entry may begin a wait, and a waiting one may go on. -/
def DataEntry.MayWait (d : DataEntry) : Prop := d.phase = .pending ∨ d.waiting ≠ none

/-- A property of states that the small changes of outcomes, failovers and served waits keep. -/
structure Outcomes (P : State → Prop) : Prop where
  move : ∀ {s} {t : Tag} {d d' : DataEntry}, s.entry t = .data d → SettledMove d d' → P s → P (s.setEntry t (.data d'))
  /-- A failover begins to wait on an ACTIVE segment (R85). -/
  wait : ∀ {s} {t : Tag} {d : DataEntry} {g : SegId} (c : Fin 4), s.entry t = .data d → d.MayWait →
    (s.seg g).state = .active → P s → P (s.setEntry t (.data { d with request := .preferred c (some g) }))
  withdraw : ∀ {s} (t : Tag) (g : SegId), P s → P (s.withdrawFrom t g)
  /-- Fresh legs on an ACTIVE segment (R84, R86). -/
  create : ∀ {s} {t : Tag} {d : DataEntry} {g : SegId} (c : Fin 4), s.entry t = .data d → d.MayWait →
    (s.seg g).state = .active → P s →
    P ((s.setEntry t (.data { d with request := .preferred c none })).createLegs t g)
  raise : ∀ {s} (x : Word), P s → P (s.raise 1 x)
  answer : ∀ {s} {t : Tag} (r : Response), s.Freeable t → P s → P (((s.placeResponse r).uncountEntry t).clearEntry t)
  drop : ∀ {s} {t : Tag}, s.Freeable t → P s → P ((s.releaseHold.uncountEntry t).clearEntry t)

theorem State.Freeable.of_flushing {s : State} {t : Tag} {b : List Tag} {n : Nat} (e : s.entry t = .flushing b n) :
    s.Freeable t := fun d ed => by simp [e] at ed

/-- A reference that names no leg has no outcome. -/
theorem State.legOutcome_of_absent {s : State} {r : LegRef} (absent : s.leg? r = none) (result : LegState) :
    s.legOutcome r result = s := by
  unfold State.legOutcome
  split
  · rename_i d e
    rw [State.leg?, e, Option.map_eq_none_iff] at absent
    rw [absent]
  · rfl

namespace Outcomes
variable {P : State → Prop} (k : Outcomes P) {s : State}
include k

theorem releaseFlushes (n : Nat) (h : P s) : P (State.releaseFlushes n s) := by
  induction n generalizing s with
  | zero => exact h
  | succ n ih =>
    unfold State.releaseFlushes
    split
    · rename_i t size found
      have flush := State.entry_of_releasable? found
      have freed := k.answer (t := t) (flushResponse t .ok size) (.of_flushing flush) h
      rw [State.uncountEntry_flushing (s := s.placeResponse (flushResponse t .ok size)) flush] at freed
      exact ih freed
    · exact h

theorem releaseChain (h : P s) : P s.releaseChain := by
  unfold State.releaseChain
  split
  · exact h
  · exact k.releaseFlushes _ h

theorem answerEntry {t : Tag} (r : Response) (free : s.Freeable t) (h : P s) : P (s.answerEntry t r) :=
  k.releaseChain (k.answer r free h)

theorem dropEntry {t : Tag} (free : s.Freeable t) (h : P s) : P (s.dropEntry t) := k.releaseChain (k.drop free h)

theorem settle {t : Tag} {d : DataEntry} (e : s.entry t = .data d) (settled : d.anyInFlight = false)
    (h : P s) : P (s.settle t d) := by
  have noneSent : d.anySent = false := by
    simp only [DataEntry.anyInFlight, DataEntry.anySent, List.any_eq_false] at settled ⊢
    intro l on sent
    exact settled l on (by simp [beq_iff_eq.1 sent, LegState.inFlight])
  have free : s.Freeable t := fun d' e' => by
    cases e.symm.trans e'
    exact ⟨noneSent, fun _ => settled⟩
  unfold State.settle
  split
  · exact k.answerEntry _ free h
  · exact k.answerEntry _ free h
  · have raised : P (if d.hasDissent then s.raise 1 (toWord t.val) else s) := by
      split
      · exact k.raise _ h
      · exact h
    have entry : (if d.hasDissent then s.raise 1 (toWord t.val) else s).entry t = .data d := by split <;> exact e
    refine k.answerEntry _ (fun d' e' => ?_) (k.move entry (.of_legs rfl (.inl rfl) rfl) raised)
    rw [State.entry_setEntry_self] at e'
    cases e'
    exact ⟨noneSent, fun _ => settled⟩

theorem examine (t : Tag) (h : P s) : P (s.examine t) := by
  unfold State.examine
  split
  · split
    · rename_i e settled
      simp only [Bool.and_eq_true, Bool.not_eq_true', Option.isNone_iff_eq_none] at settled
      exact k.settle e settled.1.1.2 h
    · exact h
  · exact h

theorem moveOn {t : Tag} (may : ∀ d, s.entry t = .data d → d.MayWait) (h : P s) : P (s.moveOn t) := by
  unfold State.moveOn
  split
  · rename_i d e
    split
    · split
      · rename_i pos g found
        have active : (s.seg g).state = .active := by simpa using Keeps.nextMember_ok found
        split
        · exact k.create pos e (may d e) active h
        · exact k.wait pos e (may d e) active h
      · exact k.move e (.of_legs rfl (.inl rfl) rfl) h
    · exact h
  · exact h

theorem failover {t : Tag} (may : ∀ d, s.entry t = .data d → d.MayWait) (h : P s) : P (s.failover t) := by
  unfold State.failover
  split
  · rename_i d e
    split
    · rename_i c cursor
      refine k.moveOn (fun d' e' => ?_) (k.withdraw t c (k.move e ⟨rfl, .inr rfl, _, rfl, fun l => ?_⟩ h))
      · rw [State.withdrawFrom_eq (State.entry_setEntry_self ..), State.setSeg_entry, State.entry_setEntry_self] at e'
        cases e'
        exact may d e
      · split
        · rename_i discards
          simp only [Bool.and_eq_true] at discards
          exact ⟨rfl, .inr ⟨discards.2, rfl⟩⟩
        · exact ⟨rfl, .inl rfl⟩
    · exact h
  · exact h

theorem afterOutcome (t : Tag) (failsOver : Bool) (h : P s) : P (s.afterOutcome t failsOver) := by
  unfold State.afterOutcome
  split
  · rename_i d e
    split
    · rename_i phase
      refine k.examine t ?_
      split
      · exact k.failover (fun d' e' => by cases e.symm.trans e'; exact .inl phase) h
      · exact h
    · rename_i phase
      split
      · exact h
      · rename_i none
        simp only [Bool.or_eq_true, not_or, Bool.not_eq_true] at none
        refine k.answerEntry _ (fun d' e' => ?_) h
        cases e.symm.trans e'
        exact ⟨none.1, by simp [phase]⟩
    · rename_i phase
      split
      · exact h
      · rename_i none
        refine k.dropEntry (fun d' e' => ?_) h
        cases e.symm.trans e'
        exact ⟨by simpa using none, by simp [phase]⟩
  · exact h

/-- An outcome is recorded and then taken (R45, R46). -/
theorem legOutcome {r : LegRef} {result : LegState} (absent : s.leg? r = none → P s)
    (recorded : ∀ d l, s.leg? r = some (d, l) →
      P (s.setEntry r.entry (.data { d with legs := d.legs.set r.index (s.settledLeg d l result) }))) :
    P (s.legOutcome r result) := by
  cases names : s.leg? r with
  | none =>
    rw [State.legOutcome_of_absent names]
    exact absent names
  | some dl =>
    obtain ⟨d, l⟩ := dl
    rw [State.legOutcome_eq names]
    exact k.afterOutcome _ _ (recorded d l names)

theorem serveFrom (g : SegId) (ts : List Tag) (active : (s.seg g).state = .active) (h : P s) :
    P (s.serveFrom g ts) := by
  induction ts generalizing s with
  | nil => exact h
  | cons t ts ih =>
    by_cases waits : s.waitsOn g t = true
    · obtain ⟨d, e, waiting⟩ := (s.waitsOn_iff g t).1 waits
      obtain ⟨c, preferred⟩ : ∃ c, d.request = .preferred c (some g) := by
        unfold DataEntry.waiting at waiting
        split at waiting
        · rename_i c w request
          exact ⟨c, by rw [request, waiting]⟩
        · cases waiting
      rw [State.serveFrom_waiting e waiting, State.dropWait_preferred preferred]
      split
      · refine ih ?_ (k.create c e (.inr (by simp [waiting])) active h)
        rw [State.createLegs_setEntry]
        exact (State.served_seg_state ..).trans active
      · exact h
    · rw [State.serveFrom, if_neg waits]
      exact ih active h

theorem serveWaiters (g : SegId) (h : P s) : P (s.serveWaiters g) := by
  unfold State.serveWaiters
  split
  · exact k.serveFrom g _ ‹_› h
  · exact h

theorem moveWaits (g : SegId) (h : P s) : P (s.moveWaits g) := by
  refine Keeps.foldl _ (fun s t hs => ?_) _ h
  split
  · rename_i waits
    obtain ⟨d, e, waiting⟩ := (s.waitsOn_iff g t).1 waits
    refine k.examine t (k.moveOn (fun d' e' => ?_) hs)
    cases e.symm.trans e'
    exact .inr (by simp [waiting])
  · exact hs

end Outcomes

/-! ## Where legs stand -/

/-- The leg at a position of the leg list is on the segment in the state. -/
def DataEntry.StandsAt (d : DataEntry) (g : SegId) (st : LegState) (i : Nat) : Prop :=
  ∃ l, d.legs[i]? = some l ∧ l.seg = g ∧ l.state = st

theorem DataEntry.StandsAt.index_lt {d : DataEntry} {g : SegId} {st : LegState} {i : Nat} (h : d.StandsAt g st i) :
    i < d.legs.length := by
  obtain ⟨l, here, -⟩ := h
  exact (List.getElem?_eq_some_iff.1 here).1

theorem SettledMove.standsAt {d d' : DataEntry} (move : SettledMove d d') {g : SegId} {st : LegState}
    (inFlight : st.inFlight = true) (i : Nat) : d'.StandsAt g st i ↔ d.StandsAt g st i := by
  obtain ⟨f, legs, same⟩ := move.legs
  have notDone : st.isDone = false := by cases st <;> simp_all [LegState.inFlight, LegState.isDone]
  simp only [DataEntry.StandsAt, legs, List.getElem?_map, Option.map_eq_some_iff]
  constructor
  · rintro ⟨_, ⟨l, here, rfl⟩, rfl, rfl⟩
    refine ⟨l, here, (same l).1.symm, ?_⟩
    rcases (same l).2 with state | ⟨-, done⟩
    · exact state.symm
    · simp [done] at notDone
  · rintro ⟨l, here, rfl, rfl⟩
    refine ⟨f l, ⟨l, here, rfl⟩, (same l).1, ?_⟩
    rcases (same l).2 with state | ⟨done, -⟩
    · exact state
    · simp [done] at notDone

namespace State
variable {s u : State}

/-- A leg of an open entry is on the segment in the state. -/
def Stands (s : State) (g : SegId) (st : LegState) (r : LegRef) : Prop :=
  ∃ d, s.entry r.entry = .data d ∧ d.StandsAt g st r.index

theorem stands_iff_leg? {g : SegId} {st : LegState} {r : LegRef} :
    s.Stands g st r ↔ ∃ d l, s.leg? r = some (d, l) ∧ l.seg = g ∧ l.state = st := by
  constructor
  · rintro ⟨d, e, l, here, rest⟩
    exact ⟨d, l, by simp [leg?, e, here], rest⟩
  · rintro ⟨d, l, names, rest⟩
    obtain ⟨e, here⟩ := leg?_some names
    exact ⟨d, e, l, here, rest⟩

theorem stands_of_entry {t : Tag} {d : DataEntry} (e : s.entry t = .data d) {g : SegId} {st : LegState} {i : Nat} :
    s.Stands g st ⟨t, i⟩ ↔ d.StandsAt g st i := by
  constructor
  · rintro ⟨d', e', here⟩
    cases e.symm.trans e'
    exact here
  · exact fun here => ⟨d, e, here⟩

theorem stands_setEntry_of_ne {t : Tag} {e : Entry} {g : SegId} {st : LegState} {r : LegRef} (ne : r.entry ≠ t) :
    (s.setEntry t e).Stands g st r ↔ s.Stands g st r := by
  simp only [Stands, entry_setEntry_of_ne s e ne]

/-- The legs' invariant (R44), apart from the legs in `out`: they have left their lists, and their outcomes are still to
be recorded. -/
structure Placed (out : List LegRef) (s : State) : Prop where
  queued : ∀ g r, r ∈ (s.seg g).queue ↔ s.Stands g .queued r ∧ r ∉ out
  sent : ∀ g r, r ∈ (s.seg g).sent.map SentLeg.ref ↔ s.Stands g .sent r ∧ r ∉ out
  once : ∀ g, ((s.seg g).queue ++ (s.seg g).sent.map SentLeg.ref).Nodup
  inside : ∀ r ∈ out, ∀ d, s.entry r.entry = .data d → r.index < d.legs.length

theorem placed_nil_iff : Placed [] s ↔ s.LegsPlaced := by
  constructor
  · intro h
    refine ⟨fun g r on => stands_iff_leg?.1 ((h.queued g r).1 on).1, fun g x on => ?_, h.once, fun r d l names => ⟨?_, ?_⟩⟩
    · exact stands_iff_leg?.1 ((h.sent g x.ref).1 (List.mem_map_of_mem on)).1
    · exact fun state => (h.queued l.seg r).2 ⟨stands_iff_leg?.2 ⟨d, l, names, rfl, state⟩, by simp⟩
    · exact fun state => (h.sent l.seg r).2 ⟨stands_iff_leg?.2 ⟨d, l, names, rfl, state⟩, by simp⟩
  · intro h
    refine ⟨fun g r => ⟨fun on => ⟨stands_iff_leg?.2 (h.queued g r on), by simp⟩, ?_⟩, fun g r => ⟨fun on => ?_, ?_⟩,
      h.once, by simp⟩
    · rintro ⟨stands, -⟩
      obtain ⟨d, l, names, rfl, state⟩ := stands_iff_leg?.1 stands
      exact (h.all r d l names).1 state
    · obtain ⟨x, hx, rfl⟩ := List.mem_map.1 on
      exact ⟨stands_iff_leg?.2 (h.sent g x hx), by simp⟩
    · rintro ⟨stands, -⟩
      obtain ⟨d, l, names, rfl, state⟩ := stands_iff_leg?.1 stands
      exact (h.all r d l names).2 state

/-- The lists and what stands in flight are the same. -/
theorem Placed.congr {out : List LegRef} (h : Placed out s)
    (queue : ∀ g, (u.seg g).queue = (s.seg g).queue)
    (sent : ∀ g, (u.seg g).sent.map SentLeg.ref = (s.seg g).sent.map SentLeg.ref)
    (stands : ∀ g st r, st.inFlight = true → (u.Stands g st r ↔ s.Stands g st r))
    (inside : ∀ r ∈ out, ∀ d, u.entry r.entry = .data d → r.index < d.legs.length) : Placed out u where
  queued g r := by rw [queue, stands g .queued r rfl, h.queued]
  sent g r := by rw [sent, stands g .sent r rfl, h.sent]
  once g := by rw [queue, sent]; exact h.once g
  inside := inside

end State

end Sys2Proof.Machine
end

section

/-! The legs' invariant (R44, R54, R57) under the small changes of outcomes, failovers and served waits. -/

namespace Sys2Proof.Machine

/-- A waiting failover is a PENDING entry's, and so is a QUEUED leg (R54, R57). -/
def DataEntry.WithdrawnKept (d : DataEntry) : Prop :=
  d.phase ≠ .pending → d.waiting = none ∧ ∀ l ∈ d.legs, l.state ≠ .queued

namespace State
variable {s u : State} {out : List LegRef}

theorem withdrawn_iff : s.Withdrawn ↔ ∀ t d, s.entry t = .data d → d.WithdrawnKept := Iff.rfl

theorem Withdrawn.setEntry (h : s.Withdrawn) {t : Tag} {e : Entry} (kept : ∀ d, e = .data d → d.WithdrawnKept) :
    (s.setEntry t e).Withdrawn := by
  intro v d ev
  rw [entry_setEntry] at ev
  split at ev
  · exact kept d ev
  · exact h v d ev

/-- Open READs and WRITEs of the one are open, unchanged, in the other. -/
theorem Withdrawn.fewer (h : s.Withdrawn) (data : ∀ t d, u.entry t = .data d → s.entry t = .data d) : u.Withdrawn :=
  fun t d e => h t d (data t d e)

/-- What is kept of the legs between and within steps. -/
structure LegsKept (out : List LegRef) (s : State) : Prop where
  placed : Placed out s
  withdrawn : s.Withdrawn

theorem Placed.standsAt (h : Placed out s) {t : Tag} {d : DataEntry} (e : s.entry t = .data d) {g : SegId} {i : Nat}
    (on : (⟨t, i⟩ : LegRef) ∈ (s.seg g).queue) : d.StandsAt g .queued i :=
  (stands_of_entry e).1 ((h.queued g _).1 on).1

/-- A leg stands in one place. -/
theorem Stands.unique {g g' : SegId} {st st' : LegState} {r : LegRef} (h : s.Stands g st r) (h' : s.Stands g' st' r) :
    g = g' ∧ st = st' := by
  obtain ⟨d, e, l, here, rfl, rfl⟩ := h
  obtain ⟨d', e', l', here', rfl, rfl⟩ := h'
  cases e.symm.trans e'
  cases here.symm.trans here'
  exact ⟨rfl, rfl⟩

/-! ## Entries whose legs in flight stay -/

theorem Placed.setEntry (h : Placed out s) {t : Tag} {d d' : DataEntry} (e : s.entry t = .data d)
    (stands : ∀ g st i, st.inFlight = true → (d'.StandsAt g st i ↔ d.StandsAt g st i))
    (length : d.legs.length ≤ d'.legs.length) : Placed out (s.setEntry t (.data d')) := by
  refine h.congr (fun _ => rfl) (fun _ => rfl) (fun g st r inFlight => ?_) fun r on d'' e'' => ?_
  · by_cases own : r.entry = t
    · obtain ⟨_, i⟩ := r
      cases own
      rw [stands_of_entry (entry_setEntry_self ..), stands_of_entry e, stands g st i inFlight]
    · exact stands_setEntry_of_ne own
  · by_cases own : r.entry = t
    · rw [own, entry_setEntry_self] at e''
      cases e''
      exact Nat.lt_of_lt_of_le (h.inside r on d (own ▸ e)) length
    · rw [entry_setEntry_of_ne _ _ own] at e''
      exact h.inside r on d'' e''

theorem LegsKept.move (h : LegsKept out s) {t : Tag} {d d' : DataEntry} (e : s.entry t = .data d)
    (move : SettledMove d d') : LegsKept out (s.setEntry t (.data d')) := by
  have length : d'.legs.length = d.legs.length := by
    obtain ⟨f, legs, -⟩ := move.legs
    simp [legs]
  refine ⟨h.placed.setEntry e (fun g st i inFlight => move.standsAt inFlight i) (by omega), h.withdrawn.setEntry ?_⟩
  rintro _ ⟨⟩ phase
  obtain ⟨none, notQueued⟩ := h.withdrawn t d e (move.phase ▸ phase)
  refine ⟨move.waiting.elim id fun same => same.trans none, fun l on queued => ?_⟩
  obtain ⟨i, here⟩ := List.mem_iff_getElem?.1 on
  obtain ⟨l', here', -, state⟩ := (move.standsAt (g := l.seg) (st := .queued) rfl i).1 ⟨l, here, rfl, queued⟩
  exact notQueued l' (List.mem_of_getElem? here') state

theorem LegsKept.setRequest (h : LegsKept out s) {t : Tag} {d : DataEntry} (e : s.entry t = .data d)
    (pending : d.phase = .pending) (request : Request) : LegsKept out (s.setEntry t (.data { d with request := request })) := by
  refine ⟨h.placed.setEntry e (fun _ _ _ _ => Iff.rfl) (Nat.le_refl _), h.withdrawn.setEntry ?_⟩
  rintro _ ⟨⟩ phase
  exact absurd pending phase

/-! ## Withdrawal -/

/-- A withdrawal leaves in flight the legs that did not stand in the queue. -/
theorem standsAt_withdrawFrom {d : DataEntry} {p : Nat → Prop} [DecidablePred p] {g : SegId} {st : LegState}
    (inFlight : st.inFlight = true) (i : Nat) :
    ({ d with legs := d.legs.mapIdx fun i l => if p i then l.withdrawn else l } : DataEntry).StandsAt g st i ↔
      d.StandsAt g st i ∧ ¬ p i := by
  simp only [DataEntry.StandsAt, List.getElem?_mapIdx, Option.map_eq_some_iff]
  constructor
  · rintro ⟨_, ⟨l, here, rfl⟩, seg, state⟩
    by_cases out : p i
    · rw [if_pos out] at state
      subst state
      cases inFlight
    · rw [if_neg out] at seg state
      exact ⟨⟨l, here, seg, state⟩, out⟩
  · rintro ⟨⟨l, here, seg, state⟩, stays⟩
    exact ⟨l, ⟨l, here, by rw [if_neg stays]⟩, seg, state⟩

theorem Placed.withdrawFrom (h : Placed out s) {t : Tag} {d : DataEntry} (e : s.entry t = .data d) (g : SegId) :
    Placed out ((s.setEntry t (.data { d with legs := d.legs.mapIdx fun i l =>
      if (⟨t, i⟩ : LegRef) ∈ (s.seg g).queue then l.withdrawn else l })).setSeg g ((s.seg g).without t)) := by
  let d' : DataEntry := { d with legs := d.legs.mapIdx fun i l =>
    if (⟨t, i⟩ : LegRef) ∈ (s.seg g).queue then l.withdrawn else l }
  let v := (s.setEntry t (.data d')).setSeg g ((s.seg g).without t)
  have stands : ∀ g' st r, st.inFlight = true →
      (v.Stands g' st r ↔ s.Stands g' st r ∧ ¬ (r.entry = t ∧ r ∈ (s.seg g).queue)) := by
    rintro g' st ⟨u, i⟩ inFlight
    by_cases own : u = t
    · subst own
      rw [stands_of_entry (show v.entry u = .data d' from entry_setEntry_self ..), stands_of_entry e]
      simpa using standsAt_withdrawFrom inFlight i
    · rw [show v.Stands g' st ⟨u, i⟩ ↔ s.Stands g' st ⟨u, i⟩ from stands_setEntry_of_ne own]
      simp [own]
  have queue : ∀ g' r, r ∈ (v.seg g').queue ↔ r ∈ (s.seg g').queue ∧ ¬ (g' = g ∧ r.entry = t) := by
    intro g' r
    by_cases here : g' = g
    · subst here
      simp [v, SegCtl.without]
    · simp [v, seg_setSeg_of_ne _ _ here, here]
  have sent : ∀ g', (v.seg g').sent = (s.seg g').sent := by
    intro g'
    simp only [v, seg_setSeg]
    split
    · subst g'
      rfl
    · rfl
  show Placed out v
  refine ⟨fun g' r => ?_, fun g' r => ?_, fun g' => ?_, fun r on d'' e'' => ?_⟩
  · rw [queue, stands g' .queued r rfl]
    constructor
    · rintro ⟨on, stays⟩
      have here := (h.queued g' r).1 on
      refine ⟨⟨here.1, fun ⟨own, leaves⟩ => stays ⟨?_, own⟩⟩, here.2⟩
      exact (here.1.unique ((h.queued g r).1 leaves).1).1
    · rintro ⟨⟨here, stays⟩, inside⟩
      have on := (h.queued g' r).2 ⟨here, inside⟩
      exact ⟨on, fun ⟨same, own⟩ => stays ⟨own, same ▸ on⟩⟩
  · rw [sent, h.sent, stands g' .sent r rfl]
    constructor
    · rintro ⟨here, inside⟩
      refine ⟨⟨here, fun ⟨_, leaves⟩ => ?_⟩, inside⟩
      cases (here.unique ((h.queued g r).1 leaves).1).2
    · exact fun ⟨⟨here, _⟩, inside⟩ => ⟨here, inside⟩
  · rw [sent]
    refine (h.once g').sublist (.append_right ?_ _)
    simp only [v, seg_setSeg]
    split
    · subst g'
      exact List.filter_sublist
    · exact .refl _
  · by_cases own : r.entry = t
    · rw [own, show v.entry t = .data d' from entry_setEntry_self ..] at e''
      cases e''
      simpa [d'] using h.inside r on d (own ▸ e)
    · rw [show v.entry r.entry = s.entry r.entry from entry_setEntry_of_ne _ _ own] at e''
      exact h.inside r on d'' e''

theorem LegsKept.withdrawFrom (h : LegsKept out s) (t : Tag) (g : SegId) : LegsKept out (s.withdrawFrom t g) := by
  cases e : s.entry t with
  | data d =>
    rw [withdrawFrom_eq e]
    refine ⟨h.placed.withdrawFrom e g, ?_⟩
    refine Withdrawn.fewer (h.withdrawn.setEntry ?_) fun _ _ e => e
    rintro _ ⟨⟩ phase
    obtain ⟨none, notQueued⟩ := h.withdrawn t d e phase
    refine ⟨none, fun l on => ?_⟩
    obtain ⟨i, below, rfl⟩ := List.mem_mapIdx.1 on
    split
    · nofun
    · exact notQueued _ (List.getElem_mem below)
  | free => simpa only [State.withdrawFrom, e] using h
  | flushing b n => simpa only [State.withdrawFrom, e] using h

/-! ## Fresh legs -/

/-- Fresh legs stand QUEUED on their segment, behind the others. -/
theorem standsAt_append_fresh (d : DataEntry) (g g' : SegId) (ps : List PartNo) {st : LegState} (i : Nat) :
    ({ d with legs := d.legs ++ ps.map (freshLeg g) } : DataEntry).StandsAt g' st i ↔
      d.StandsAt g' st i ∨ (g' = g ∧ st = .queued ∧ d.legs.length ≤ i ∧ i < d.legs.length + ps.length) := by
  by_cases old : i < d.legs.length
  · simp only [DataEntry.StandsAt, List.getElem?_append_left old, Nat.not_le.2 old, false_and, and_false, or_false]
  · have noOld : ¬ d.StandsAt g' st i := fun stands => old stands.index_lt
    rw [or_iff_right noOld]
    simp only [DataEntry.StandsAt, List.getElem?_append_right (Nat.not_lt.1 old), List.getElem?_map,
      Option.map_eq_some_iff]
    constructor
    · rintro ⟨_, ⟨p, here, rfl⟩, rfl, rfl⟩
      have := (List.getElem?_eq_some_iff.1 here).1
      exact ⟨rfl, rfl, by omega, by omega⟩
    · rintro ⟨rfl, rfl, -, below⟩
      exact ⟨_, ⟨_, List.getElem?_eq_getElem (by omega), rfl⟩, rfl, rfl⟩

theorem mem_refsFrom {t : Tag} {base n : Nat} {r : LegRef} :
    r ∈ refsFrom t base n ↔ r.entry = t ∧ base ≤ r.index ∧ r.index < base + n := by
  obtain ⟨u, i⟩ := r
  simp only [refsFrom, List.mem_map, List.mem_range, LegRef.mk.injEq]
  constructor
  · rintro ⟨j, below, rfl, rfl⟩
    exact ⟨rfl, by omega, by omega⟩
  · rintro ⟨rfl, low, high⟩
    exact ⟨i - base, by omega, rfl, by omega⟩

theorem refsFrom_nodup (t : Tag) (base n : Nat) : (refsFrom t base n).Nodup :=
  List.nodup_range.map fun _ _ same => by simpa using same

theorem Placed.createLegs (h : Placed out s) (t : Tag) (g : SegId) : Placed out (s.createLegs t g) := by
  cases e : s.entry t with
  | free => simpa only [State.createLegs, e] using h
  | flushing b n => simpa only [State.createLegs, e] using h
  | data d =>
    let d' : DataEntry := { d with legs := d.legs ++ d.parts.numbers.map (freshLeg g) }
    let v := (s.setEntry t (.data d')).setSeg g { s.seg g with
      queue := (s.seg g).queue ++ refsFrom t d.legs.length d.parts.count }
    have fresh : s.createLegs t g = v := createLegs_eq e g
    have stands : ∀ g' st r, v.Stands g' st r ↔
        s.Stands g' st r ∨ (g' = g ∧ st = .queued ∧ r ∈ refsFrom t d.legs.length d.parts.count) := by
      rintro g' st ⟨u, i⟩
      rw [mem_refsFrom]
      by_cases own : u = t
      · subst own
        rw [stands_of_entry (show v.entry u = .data d' from entry_setEntry_self ..), stands_of_entry e,
          standsAt_append_fresh, numbers_length]
        simp
      · rw [show v.Stands g' st ⟨u, i⟩ ↔ s.Stands g' st ⟨u, i⟩ from stands_setEntry_of_ne own]
        simp [own]
    have queue : ∀ g' r, r ∈ (v.seg g').queue ↔
        r ∈ (s.seg g').queue ∨ (g' = g ∧ r ∈ refsFrom t d.legs.length d.parts.count) := by
      intro g' r
      by_cases here : g' = g
      · subst here
        simp [v]
      · simp [v, seg_setSeg_of_ne _ _ here, here]
    have sent : ∀ g', (v.seg g').sent = (s.seg g').sent := by
      intro g'
      simp only [v, seg_setSeg]
      split
      · subst g'
        rfl
      · rfl
    have new : ∀ r ∈ refsFrom t d.legs.length d.parts.count, r ∉ out ∧ ∀ g' st, ¬ s.Stands g' st r := by
      intro r on
      obtain ⟨rfl, low, -⟩ := mem_refsFrom.1 on
      refine ⟨fun inside => absurd (h.inside r inside d e) (by omega), fun g' st stands => ?_⟩
      exact absurd ((stands_of_entry (i := r.index) e).1 stands).index_lt (by omega)
    rw [fresh]
    refine ⟨fun g' r => ?_, fun g' r => ?_, fun g' => ?_, fun r on d'' e'' => ?_⟩
    · rw [queue, stands, h.queued]
      constructor
      · rintro (⟨here, inside⟩ | ⟨same, on⟩)
        · exact ⟨.inl here, inside⟩
        · exact ⟨.inr ⟨same, rfl, on⟩, (new r on).1⟩
      · rintro ⟨here | ⟨same, -, on⟩, inside⟩
        · exact .inl ⟨here, inside⟩
        · exact .inr ⟨same, on⟩
    · rw [sent, h.sent, stands]
      simp
    · rw [sent]
      by_cases here : g' = g
      · subst here
        have apart : List.Disjoint (refsFrom t d.legs.length d.parts.count)
            ((s.seg g').queue ++ (s.seg g').sent.map SentLeg.ref) := by
          intro r on old
          rcases List.mem_append.1 old with old | old
          · exact (new r on).2 _ _ ((h.queued g' r).1 old).1
          · exact (new r on).2 _ _ ((h.sent g' r).1 old).1
        have all := (refsFrom_nodup t d.legs.length d.parts.count).append (h.once g') apart
        refine (List.Perm.nodup_iff ?_).1 all
        simp only [v, seg_setSeg_self]
        rw [← List.append_assoc]
        exact List.perm_append_comm.append_right _
      · rw [show (v.seg g').queue = (s.seg g').queue by simp [v, seg_setSeg_of_ne _ _ here]]
        exact h.once g'
    · by_cases own : r.entry = t
      · rw [own, show v.entry t = .data d' from entry_setEntry_self ..] at e''
        cases e''
        have below := h.inside r on d (own ▸ e)
        simp only [d', List.length_append]
        omega
      · rw [show v.entry r.entry = s.entry r.entry from entry_setEntry_of_ne _ _ own] at e''
        exact h.inside r on d'' e''

theorem LegsKept.createLegs (h : LegsKept out s) {t : Tag} {d : DataEntry} (e : s.entry t = .data d)
    (pending : d.phase = .pending) (g : SegId) : LegsKept out (s.createLegs t g) := by
  refine ⟨h.placed.createLegs t g, ?_⟩
  rw [createLegs_eq e]
  refine Withdrawn.fewer (h.withdrawn.setEntry (t := t) ?_) fun _ _ e => e
  rintro _ ⟨⟩ phase
  exact absurd pending phase

/-! ## Freeing -/

theorem Freeable.settled {t : Tag} (free : s.Freeable t) (withdrawn : s.Withdrawn) {g : SegId} {st : LegState}
    (inFlight : st.inFlight = true) {r : LegRef} (own : r.entry = t) : ¬ s.Stands g st r := by
  rintro ⟨d, e, l, here, rfl, rfl⟩
  rw [own] at e
  obtain ⟨noneSent, pendingSettled⟩ := free d e
  have on := List.mem_of_getElem? here
  by_cases phase : d.phase = .pending
  · exact absurd inFlight (by simpa using List.any_eq_false.1 (pendingSettled phase) l on)
  · cases state : l.state with
    | queued => exact (withdrawn t d e phase).2 l on state
    | sent => exact List.any_eq_false.1 noneSent l on (by simp [state])
    | done _ | failed _ | withdrawn => simp [state, LegState.inFlight] at inFlight

theorem entry_clearEntry_eq_data {t v : Tag} {d : DataEntry} :
    (s.clearEntry t).entry v = .data d ↔ v ≠ t ∧ s.entry v = .data d := by
  rw [entry_clearEntry]
  split
  · simp_all
  · simp_all [Entry.dropBarrierTag_eq_data]

/-- Freeing an entry none of whose legs is in flight. -/
theorem LegsKept.clear (h : LegsKept out s) {t : Tag} (free : s.Freeable t)
    (data : ∀ v d, u.entry v = .data d ↔ v ≠ t ∧ s.entry v = .data d) (segs : ∀ g, u.seg g = s.seg g) :
    LegsKept out u := by
  refine ⟨h.placed.congr (fun g => by rw [segs]) (fun g => by rw [segs]) (fun g st r inFlight => ?_) fun r on d e => ?_,
    h.withdrawn.fewer fun v d e => ((data v d).1 e).2⟩
  · by_cases own : r.entry = t
    · refine iff_of_false (fun ⟨d, e, _⟩ => ((data _ d).1 e).1 own) (free.settled h.withdrawn inFlight own)
    · simp only [Stands, data, own, ne_eq, not_false_eq_true, true_and]
  · exact h.placed.inside r on d ((data _ d).1 e).2

/-! ## Outcomes recorded -/

theorem LegsKept.absent (h : LegsKept (r :: out) s) (none : s.leg? r = none) : LegsKept out s := by
  have gone : ∀ g st, ¬ s.Stands g st r := fun g st stands => by
    obtain ⟨d, l, names, -⟩ := stands_iff_leg?.1 stands
    simp [names] at none
  have same : ∀ g st r', s.Stands g st r' ∧ r' ∉ r :: out ↔ s.Stands g st r' ∧ r' ∉ out := by
    intro g st r'
    refine and_congr_right fun stands => ?_
    have other : r' ≠ r := fun same => gone g st (same ▸ stands)
    simp [other]
  refine ⟨⟨fun g r' => ?_, fun g r' => ?_, h.placed.once, fun r' on => h.placed.inside r' (by simp [on])⟩, h.withdrawn⟩
  · rw [h.placed.queued, same]
  · rw [h.placed.sent, same]

theorem LegsKept.recorded {r : LegRef} (h : LegsKept (r :: out) s) {d : DataEntry} {l : Leg}
    (names : s.leg? r = some (d, l)) {m : Leg} (settled : m.state.inFlight = false) :
    LegsKept out (s.setEntry r.entry (.data { d with legs := d.legs.set r.index m })) := by
  obtain ⟨e, here⟩ := leg?_some names
  let d' : DataEntry := { d with legs := d.legs.set r.index m }
  let v := s.setEntry r.entry (.data d')
  have stands : ∀ g st r', st.inFlight = true → (v.Stands g st r' ↔ s.Stands g st r' ∧ r' ≠ r) := by
    rintro g st ⟨t, i⟩ inFlight
    obtain ⟨t', j⟩ := r
    by_cases own : t = t'
    · subst own
      rw [stands_of_entry (show v.entry t = .data d' from entry_setEntry_self ..), stands_of_entry e]
      have below := (List.getElem?_eq_some_iff.1 here).1
      by_cases same : j = i
      · subst same
        refine iff_of_false (fun stands => ?_) (by simp)
        obtain ⟨l', here', -, rfl⟩ := stands
        simp only [d', List.getElem?_set_self below, Option.some.injEq] at here'
        simp [← here', settled] at inFlight
      · simp [DataEntry.StandsAt, d', List.getElem?_set_ne same, Ne.symm same]
    · rw [show v.Stands g st ⟨t, i⟩ ↔ s.Stands g st ⟨t, i⟩ from stands_setEntry_of_ne own]
      simp [own]
  have same : ∀ g st r', st.inFlight = true →
      (s.Stands g st r' ∧ r' ∉ r :: out ↔ v.Stands g st r' ∧ r' ∉ out) := by
    intro g st r' inFlight
    rw [stands g st r' inFlight, List.mem_cons, not_or, and_assoc]
  refine ⟨⟨fun g r' => ?_, fun g r' => ?_, h.placed.once, fun r' on d'' e'' => ?_⟩, h.withdrawn.setEntry ?_⟩
  · rw [← same g .queued r' rfl, ← h.placed.queued]
    rfl
  · rw [← same g .sent r' rfl, ← h.placed.sent]
    rfl
  · by_cases own : r'.entry = r.entry
    · rw [own, entry_setEntry_self] at e''
      cases e''
      simpa using h.placed.inside r' (by simp [on]) d (own ▸ e)
    · rw [entry_setEntry_of_ne _ _ own] at e''
      exact h.placed.inside r' (by simp [on]) d'' e''
  · rintro _ ⟨⟩ phase
    obtain ⟨none, notQueued⟩ := h.withdrawn r.entry d e phase
    refine ⟨none, fun l' on => ?_⟩
    rcases List.mem_or_eq_of_mem_set on with old | rfl
    · exact notQueued l' old
    · intro queued
      simp [queued, LegState.inFlight] at settled

end State

end Sys2Proof.Machine
end

section

/-! Outcomes keep the legs' invariant (R44 to R46). A segment taken out of service (R119, R132, R157), and the segment
commands (R125 to R131). -/

namespace Sys2Proof.Machine

namespace State
variable {s u : State} {out : List LegRef}

/-- The legs' invariant reads the table and the segments' lists alone. -/
theorem LegsKept.congr (h : LegsKept out s) (entries : ∀ t, u.entry t = s.entry t)
    (queue : ∀ g, (u.seg g).queue = (s.seg g).queue)
    (sent : ∀ g, (u.seg g).sent.map SentLeg.ref = (s.seg g).sent.map SentLeg.ref) : LegsKept out u := by
  refine ⟨h.placed.congr queue sent (fun g st r _ => by simp only [Stands, entries]) fun r on d e => ?_,
    h.withdrawn.fewer fun t d e => entries t ▸ e⟩
  exact h.placed.inside r on d (entries r.entry ▸ e)

theorem Withdrawn.pending (h : s.Withdrawn) {t : Tag} {d : DataEntry} (e : s.entry t = .data d) (may : d.MayWait) :
    d.phase = .pending :=
  may.elim id fun waits => by_contra fun phase => waits (h t d e phase).1

theorem LegsKept.outcomes (out : List LegRef) : Outcomes (LegsKept out) where
  move e move h := h.move e move
  wait c e may active h := h.setRequest e (h.withdrawn.pending e may) _
  withdraw t g h := h.withdrawFrom t g
  create {s t d g} c e may active h := by
    have pending := h.withdrawn.pending e may
    exact (h.setRequest e pending (.preferred c none)).createLegs (entry_setEntry_self ..) pending g
  raise x h := h.congr (fun _ => rfl) (fun _ => rfl) fun _ => rfl
  answer {s t} r free h := by
    refine h.clear free (fun v d => ?_) fun g => ?_
    · rw [entry_clearEntry_eq_data, uncountEntry_entry]
      rfl
    · rw [clearEntry_seg, uncountEntry_seg]
      rfl
  drop {s t} free h := by
    refine h.clear free (fun v d => ?_) fun g => ?_
    · rw [entry_clearEntry_eq_data, uncountEntry_entry]
      rfl
    · rw [clearEntry_seg, uncountEntry_seg]
      rfl

/-- An outcome of a leg that has left its list: the leg settles, and the invariant holds of the others. -/
theorem LegsKept.legOutcome {r : LegRef} (h : LegsKept (r :: out) s) {result : LegState}
    (settled : result.inFlight = false) : LegsKept out (s.legOutcome r result) := by
  refine (LegsKept.outcomes out).legOutcome h.absent fun d l names => h.recorded names ?_
  unfold settledLeg
  dsimp only
  split
  · rfl
  · exact settled

theorem LegsKept.foldl_legOutcome {result : LegState} (settled : result.inFlight = false) (refs : List LegRef)
    (h : LegsKept (refs ++ out) s) : LegsKept out (refs.foldl (fun u r => u.legOutcome r result) s) := by
  induction refs generalizing s with
  | nil => exact h
  | cons r refs ih => exact ih (h.legOutcome settled)

theorem LegsKept.offerRise (h : LegsKept out s) (g : SegId) : LegsKept out (s.offerRise g) := by
  unfold State.offerRise
  split
  · refine (LegsKept.outcomes out).serveWaiters g (h.congr (fun _ => rfl) (fun g' => ?_) fun g' => ?_)
    · rw [seg_setSeg]
      split
      · subst g'
        rfl
      · rfl
    · rw [seg_setSeg]
      split
      · subst g'
        rfl
      · rfl
  · exact h

/-! ## Out of service -/

/-- While a segment that has left service has its failures and its waits taken: it stays as it is, other segments change
in their queues alone, no level but 1 and 6 changes, and waits on it stay among the given tags. -/
structure Leaving (v : State) (g : SegId) (tags : Tag → Prop) (u : State) : Prop where
  self : u.seg g = v.seg g
  others : ∀ h, u.seg h = { v.seg h with queue := (u.seg h).queue }
  level : ∀ h, u.level (deviceLevel h) = v.level (deviceLevel h)
  waits : ∀ t d, u.entry t = .data d → d.waiting = some g → tags t

theorem deviceLevel_ne_part (h : SegId) : deviceLevel h ≠ 1 ∧ deviceLevel h ≠ 6 ∧ deviceLevel h ≠ 7 := by
  revert h
  decide

theorem level_count_of_ne (s : State) (i : Fin 49) (told : Bool) {l : LevelId} (ne : l ≠ 7) :
    (s.count i told).level l = s.level l := by
  unfold count level
  dsimp only
  split
  · exact level_setLevel_of_ne s _ ne
  · rfl

namespace Leaving
variable {v : State} {g : SegId} {tags : Tag → Prop}

theorem setEntry (h : Leaving v g tags s) {t : Tag} {e : Entry}
    (waits : ∀ d, e = .data d → d.waiting = some g → tags t) : Leaving v g tags (s.setEntry t e) := by
  refine ⟨h.self, h.others, h.level, fun t' d' e' waiting => ?_⟩
  rw [entry_setEntry] at e'
  split at e'
  · rename_i same
    exact same ▸ waits d' e' waiting
  · exact h.waits t' d' e' waiting

theorem queue (h : Leaving v g tags s) {g' : SegId} {q : List LegRef} (stays : g' = g → q = (v.seg g).queue) :
    Leaving v g tags (s.setSeg g' { s.seg g' with queue := q }) := by
  refine ⟨?_, fun h' => ?_, h.level, h.waits⟩
  · rw [seg_setSeg]
    split
    · rename_i same
      rw [stays same.symm, ← same, h.self]
    · exact h.self
  · rw [seg_setSeg]
    split
    · rename_i same
      subst same
      rw [h.others h']
    · exact h.others h'

/-- The entry is freed, and its count and its bank's count change. -/
theorem freed (h : Leaving v g tags s) (segs : ∀ h', u.seg h' = s.seg h')
    (levels : ∀ h', u.level (deviceLevel h') = s.level (deviceLevel h'))
    (data : ∀ t' d, u.entry t' = .data d → s.entry t' = .data d) : Leaving v g tags u := by
  refine ⟨(segs g).trans h.self, fun h' => ?_, fun h' => (levels h').trans (h.level h'), fun t' d e => h.waits t' d (data t' d e)⟩
  rw [segs h']
  exact h.others h'

theorem outcomes (inactive : (v.seg g).state ≠ .active) (empty : (v.seg g).queue = []) : Outcomes (Leaving v g tags) where
  move e move h := h.setEntry fun d'' e'' waiting => by
    cases e''
    rcases move.waiting with none | same
    · simp [none] at waiting
    · exact h.waits _ _ e (same ▸ waiting)
  wait c e may active h := h.setEntry fun d'' e'' waiting => by
    cases e''
    cases waiting
    exact absurd (h.self ▸ active) inactive
  withdraw {s} t g' h := by
    cases e : s.entry t with
    | free => simpa only [State.withdrawFrom, e] using h
    | flushing b n => simpa only [State.withdrawFrom, e] using h
    | data d =>
      rw [withdrawFrom_eq e]
      refine queue (h.setEntry fun d'' e'' waiting => ?_) fun same => ?_
      · cases e''
        exact h.waits t d e waiting
      · rw [same, h.self, empty]
        rfl
  create {s t d g'} c e may active h := by
    rw [createLegs_setEntry]
    refine queue (h.setEntry fun d'' e'' waiting => ?_) fun same => ?_
    · cases e''
      cases waiting
    · exact absurd (h.self ▸ same ▸ active) inactive
  raise x h := h.freed (fun _ => rfl) (fun h' => level_setLevel_of_ne _ _ (deviceLevel_ne_part h').1) fun _ _ e => e
  answer {s t} r free h := by
    refine h.freed (fun h' => ?_) (fun h' => ?_) fun t' d e => ?_
    · rw [clearEntry_seg, uncountEntry_seg]
      rfl
    · rw [clearEntry_level, level_uncountEntry _ _ _ (deviceLevel_ne_part h').2.1, State.placeResponse,
        level_count_of_ne _ _ _ (deviceLevel_ne_part h').2.2]
      rfl
    · rw [entry_clearEntry_eq_data, uncountEntry_entry] at e
      exact e.2
  drop {s t} free h := by
    refine h.freed (fun h' => ?_) (fun h' => ?_) fun t' d e => ?_
    · rw [clearEntry_seg, uncountEntry_seg]
      rfl
    · rw [clearEntry_level, level_uncountEntry _ _ _ (deviceLevel_ne_part h').2.1]
      rfl
    · rw [entry_clearEntry_eq_data, uncountEntry_entry] at e
      exact e.2

end Leaving

theorem Leaving.legOutcome {v : State} {g : SegId} {tags : Tag → Prop} (inactive : (v.seg g).state ≠ .active)
    (empty : (v.seg g).queue = []) {r : LegRef} {result : LegState} (h : Leaving v g tags s) :
    Leaving v g tags (s.legOutcome r result) :=
  (Leaving.outcomes inactive empty).legOutcome (fun _ => h) fun d l names => h.setEntry fun d' e' waiting => by
    cases e'
    exact h.waits _ d (leg?_some names).1 waiting

/-- A READ that has moved on from a segment that is not ACTIVE does not wait on it (R87). -/
theorem moveOn_not_waiting {g : SegId} {t : Tag} (inactive : (s.seg g).state ≠ .active)
    (waits : s.waitsOn g t = true) : ¬ (s.moveOn t).waitsOn g t = true := by
  obtain ⟨d, e, waiting⟩ := (s.waitsOn_iff g t).1 waits
  have ends : ∀ {u : State} {d' : DataEntry}, u.entry t = .data d' → d'.waiting ≠ some g → ¬ u.waitsOn g t = true := by
    intro u d' e' other waits
    obtain ⟨d'', e'', waiting⟩ := (u.waitsOn_iff g t).1 waits
    cases e'.symm.trans e''
    exact other waiting
  unfold DataEntry.waiting at waiting
  split at waiting
  · rename_i c w preferred
    simp only [moveOn, e, preferred]
    split
    · rename_i pos g' found
      have active : (s.seg g').state = .active := by simpa using Keeps.nextMember_ok found
      split
      · rw [createLegs_setEntry]
        exact ends (entry_setEntry_self ..) (by simp [DataEntry.waiting])
      · refine ends (entry_setEntry_self ..) ?_
        simp only [DataEntry.waiting, ne_eq, Option.some.injEq]
        exact fun same => inactive (same ▸ active)
    · exact ends (entry_setEntry_self ..) (by simp [DataEntry.waiting])
  · cases waiting

/-- Once the waits on a segment have moved on by tag, none is left (R87). -/
theorem Leaving.moveWaits {v : State} {g : SegId} {tags : Tag → Prop} (inactive : (v.seg g).state ≠ .active)
    (empty : (v.seg g).queue = []) (h : Leaving v g tags s) : Leaving v g (fun _ => False) (s.moveWaits g) := by
  have step : ∀ (ts : List Tag) (s : State), Leaving v g (· ∈ ts) s →
      Leaving v g (fun _ => False) (ts.foldl (fun u t => if u.waitsOn g t then (u.moveOn t).examine t else u) s) := by
    intro ts
    induction ts with
    | nil => exact fun s h => ⟨h.self, h.others, h.level, fun t d e waiting => absurd (h.waits t d e waiting) (by simp)⟩
    | cons t ts ih =>
      intro s h
      refine ih _ ?_
      have fewer : ∀ {u : State}, Leaving v g (· ∈ t :: ts) u → ¬ u.waitsOn g t = true → Leaving v g (· ∈ ts) u := by
        intro u hu passed
        refine ⟨hu.self, hu.others, hu.level, fun t' d e waiting => ?_⟩
        rcases List.mem_cons.1 (hu.waits t' d e waiting) with rfl | later
        · exact absurd ((u.waitsOn_iff g t').2 ⟨d, e, waiting⟩) passed
        · exact later
      show Leaving v g (· ∈ ts) (if s.waitsOn g t = true then (s.moveOn t).examine t else s)
      split
      · rename_i waits
        obtain ⟨d, e, waiting⟩ := (s.waitsOn_iff g t).1 waits
        have moved := (Leaving.outcomes inactive empty).moveOn (fun d' e' => by
          cases e.symm.trans e'
          exact .inr (by simp [waiting])) h
        exact (Leaving.outcomes inactive empty).examine t
          (fewer moved (moveOn_not_waiting (h.self ▸ inactive) waits))
      · exact fewer h ‹_›
  exact step allTags s ⟨h.self, h.others, h.level, fun t _ _ _ => mem_allTags t⟩

/-- The state in which a segment that leaves service fails its legs (R119, R132, R157). -/
def emptied (s : State) (g : SegId) (target : SegState) (reason : FailureReason) : State :=
  (s.setSeg g { s.seg g with
    state := target, sent := [], queue := [], attention := []
    lastFailure := if (s.seg g).sent.map SentLeg.ref ++ (s.seg g).queue = [] then (s.seg g).lastFailure
      else reason.last 0 }).setLevel (deviceLevel g) { s.level (deviceLevel g) with latch := none }

theorem outOfService_eq (s : State) (g : SegId) (target : SegState) (reason : FailureReason) :
    s.outOfService g target reason = (((s.seg g).sent.map SentLeg.ref ++ (s.seg g).queue).foldl
      (fun u x => u.legOutcome x (.failed reason)) (s.emptied g target reason)).moveWaits g := by
  have segment : (s.dropReports g).seg g = { s.seg g with attention := [] } := seg_setSeg_self ..
  have start : (s.dropReports g).setSeg g { (s.dropReports g).seg g with
      state := target, sent := [], queue := []
      lastFailure := if ((s.seg g).sent.map SentLeg.ref ++ (s.seg g).queue).isEmpty then (s.seg g).lastFailure
        else reason.last 0 } = s.emptied g target reason := by
    rw [segment, emptied, dropReports]
    simp only [List.isEmpty_iff]
    exact congrArg (fun u : State => u.setLevel (deviceLevel g) { s.level (deviceLevel g) with latch := none })
      (setSeg_setSeg s g _ _)
  rw [← start, segment]
  rw [outOfService, segment]
  rfl
theorem outOfService_leaving (s : State) (g : SegId) {target : SegState} (inactive : target ≠ .active)
    (reason : FailureReason) :
    Leaving (s.emptied g target reason) g (fun _ => False) (s.outOfService g target reason) := by
  let v := s.emptied g target reason
  have segment : v.seg g = _ := State.seg_setSeg_self ..
  have quiet : (v.seg g).state ≠ .active := by rw [segment]; exact inactive
  have empty : (v.seg g).queue = [] := by rw [segment]
  have before : Leaving v g (fun _ => True) v := ⟨rfl, fun _ => rfl, fun _ => rfl, fun _ _ _ _ => trivial⟩
  rw [outOfService_eq]
  exact (Keeps.foldl (P := Leaving v g fun _ => True) (fun u x => u.legOutcome x (.failed reason))
    (fun _ _ h => h.legOutcome quiet empty) _ before).moveWaits quiet empty

theorem outOfService_state (s : State) (g : SegId) {target : SegState} (inactive : target ≠ .active)
    (reason : FailureReason) : ((s.outOfService g target reason).seg g).state = target := by
  rw [(s.outOfService_leaving g inactive reason).self]
  exact congrArg SegCtl.state (State.seg_setSeg_self ..)

end State

/-- Settles O38: what a segment taken out of service keeps and loses. -/
theorem outOfService : Obligations.OutOfService := by
  intro s g target reason targets reasons refs v t
  have inactive : target ≠ .active := by rcases targets with rfl | rfl | ⟨n, rfl⟩ <;> nofun
  have start : s.emptied g target reason = v := by
    rcases reasons with rfl | rfl <;> rfl
  have after := s.outOfService_leaving g inactive reason
  have ends : t = _ := s.outOfService_eq g target reason
  rw [start] at after ends
  refine ⟨ends, after.self, after.level g, fun tag d e waiting => (after.waits tag d e waiting).elim, fun h ne => ?_⟩
  rw [show t.seg h = _ from after.others h, show v.seg h = s.seg h from State.seg_setSeg_of_ne _ _ ne]

/-! ## Segment commands -/

section
variable {s : State} {f : RxFrame} {rest : List RxFrame} (free : s.entry f.tag = .free) {row : TakenRow}
  (takes : Takes s row f rest) {cmd : Instr} {allowed : SegState → Bool} {effect : RxFrame → State → State}
  (meaning : exec cmd s = .next (s.takeFrame row fun u f => u.segmentCommand f allowed (effect f)))
include free takes meaning

/-- Where its state allows it a segment command is carried out, and answered with the new state's code (R125). -/
theorem exec_segmentCommand_allowed {u : State} {n : Nat} (ok : allowed (s.seg f.operandSegment).state = true)
    (same : effect f (s.taken rest) = u) (code : (u.seg f.operandSegment).state.code = n) :
    exec cmd s = .next ((u.placeResponse (f.reply .ok (toWord n))).finish s) := by
  rw [takes.exec_eq meaning, State.segmentCommand, withFreeTag_free (tagInUse_false (s := s.taken rest) free)]
  simp only [show allowed ((s.taken rest).seg f.operandSegment).state = true from ok, if_true, same, code]
  rfl

theorem exec_segmentCommand_refused (refused : allowed (s.seg f.operandSegment).state = false) :
    exec cmd s = .next (((s.taken rest).placeResponse
      (f.reply .refused (toWord (s.seg f.operandSegment).state.code))).finish s) := by
  rw [takes.exec_eq meaning, State.segmentCommand, withFreeTag_free (tagInUse_false (s := s.taken rest) free)]
  simp only [show allowed ((s.taken rest).seg f.operandSegment).state = false from refused]
  rfl

end

theorem SegState.idle_iff (st : SegState) : st.idle = true ↔ st = .offline ∨ st = .faulted := by
  cases st <;> simp [SegState.idle]

section
variable {s : State} {f : RxFrame} {rest : List RxFrame} (free : s.entry f.tag = .free)
include free

theorem exec_segmentStart (takes : Takes s .segmentStart f rest) :
    ((s.seg f.operandSegment).state.idle = true → exec .segmentStart s = .next (State.finish
      (((s.taken rest).setSeg f.operandSegment { s.seg f.operandSegment with
        failures := 0
        state := .probing (s.seg f.operandSegment).legTag (s.seg f.operandSegment).legTimeout f.operandSynced
        legTag := (s.seg f.operandSegment).legTag + 1
        line := (s.seg f.operandSegment).line ++ [.probe (s.seg f.operandSegment).legTag] }).placeResponse
          (f.reply .ok 2)) s)) ∧
    ((s.seg f.operandSegment).state.idle = false → exec .segmentStart s = .next (((s.taken rest).placeResponse
      (f.reply .refused (toWord (s.seg f.operandSegment).state.code))).finish s)) := by
  refine ⟨fun idle => exec_segmentCommand_allowed (n := 2) free takes rfl idle ?_ ?_,
    exec_segmentCommand_refused free takes rfl⟩
  · rw [State.startSegment, State.sendProbe, State.seg_setSeg_self, State.setSeg_setSeg]
    rfl
  · rw [State.seg_setSeg_self]
    rfl

theorem exec_segmentSynced (takes : Takes s .segmentSynced f rest) :
    ((s.seg f.operandSegment).state = .rejoining → exec .segmentSynced s = .next (State.finish
      (((s.taken rest).setSeg f.operandSegment { s.seg f.operandSegment with state := .active }).placeResponse
        (f.reply .ok 4)) s)) ∧
    ((s.seg f.operandSegment).state ≠ .rejoining → exec .segmentSynced s = .next (((s.taken rest).placeResponse
      (f.reply .refused (toWord (s.seg f.operandSegment).state.code))).finish s)) := by
  refine ⟨fun rejoining => exec_segmentCommand_allowed (n := 4) (allowed := (· == .rejoining)) free takes rfl (beq_iff_eq.2 rejoining) ?_ ?_,
    fun other => exec_segmentCommand_refused (allowed := (· == .rejoining)) free takes rfl (beq_eq_false_iff_ne.2 other)⟩
  · rfl
  · rw [State.seg_setSeg_self]
    rfl

/-- A segment leaves for a state that carries no legs, and the command is answered with that state's code. -/
theorem exec_leaving {row : TakenRow} (takes : Takes s row f rest) {cmd : Instr} {allowed : SegState → Bool}
    (target : SegState) (inactive : target ≠ .active)
    (meaning : exec cmd s = .next (s.takeFrame row fun u f => u.segmentCommand f allowed
      fun u => u.leaveFor f.operandSegment target .segmentStopped))
    (ok : allowed (s.seg f.operandSegment).state = true) :
    ((s.seg f.operandSegment).state.carries = true → exec cmd s = .next (State.finish
      (((s.taken rest).outOfService f.operandSegment target .segmentStopped).placeResponse
        (f.reply .ok (toWord target.code))) s)) ∧
    (¬ (s.seg f.operandSegment).state.carries = true → exec cmd s = .next (State.finish
      (((s.taken rest).setSeg f.operandSegment { s.seg f.operandSegment with state := target }).placeResponse
        (f.reply .ok (toWord target.code))) s)) := by
  refine ⟨fun serving => ?_, fun silent => ?_⟩
  · refine exec_segmentCommand_allowed free takes meaning ok
      (leaveFor_of_carries (s := s.taken rest) serving target .segmentStopped) ?_
    rw [State.outOfService_state _ _ inactive]
  · refine exec_segmentCommand_allowed free takes meaning ok
      (leaveFor_of_not_carries (s := s.taken rest) silent target .segmentStopped) ?_
    rw [State.seg_setSeg_self]

end

/-- SEGMENT_STOP is allowed outside OFFLINE and RESETTING (R125). -/
def mayStop (st : SegState) : Bool :=
  match st with
  | .offline | .resetting _ => false
  | _ => true

/-- SEGMENT_RESET is allowed outside RESETTING (R125). -/
def mayReset (st : SegState) : Bool :=
  match st with
  | .resetting _ => false
  | _ => true

theorem mayStop_iff (st : SegState) : mayStop st = true ↔ st ≠ .offline ∧ ¬ ∃ n, st = .resetting n := by
  cases st <;> simp [mayStop]

theorem mayReset_iff (st : SegState) : mayReset st = true ↔ ¬ ∃ n, st = .resetting n := by
  cases st <;> simp [mayReset]

theorem mayStop_of_carries {st : SegState} (carries : st.carries = true) : mayStop st = true ∧ mayReset st = true := by
  rcases (carries_iff st).1 carries with rfl | rfl <;> exact ⟨rfl, rfl⟩

/-- Settles O41: each command where its state allows it, and its refusal elsewhere. -/
theorem segmentCommands : Obligations.SegmentCommands := by
  intro s f rest free k g c refusal resetting carries
  have serves : carries ↔ c.state.carries = true := (carries_iff _).symm
  refine ⟨fun takes => ⟨fun idle => ?_, fun notOffline notFaulted => ?_⟩, exec_segmentSynced free,
    fun takes => ⟨fun serving => ?_, fun silent notOffline notResetting => ?_, fun refused => ?_⟩,
    fun takes => ⟨fun serving => ?_, fun silent notResetting => ?_, fun refused => ?_⟩⟩
  · exact (exec_segmentStart free takes).1 ((SegState.idle_iff _).2 idle)
  · refine (exec_segmentStart free takes).2 (Bool.eq_false_iff.2 fun idle => ?_)
    exact ((SegState.idle_iff _).1 idle).elim notOffline notFaulted
  · exact (exec_leaving (allowed := mayStop) free takes .offline nofun rfl
      (mayStop_of_carries (serves.1 serving)).1).1 (serves.1 serving)
  · exact (exec_leaving (allowed := mayStop) free takes .offline nofun rfl
      ((mayStop_iff _).2 ⟨notOffline, notResetting⟩)).2 (mt serves.2 silent)
  · refine exec_segmentCommand_refused (allowed := mayStop) free takes rfl (Bool.eq_false_iff.2 fun may => ?_)
    obtain ⟨notOffline, notResetting⟩ := (mayStop_iff _).1 may
    exact refused.elim notOffline notResetting
  · exact (exec_leaving (allowed := mayReset) free takes (.resetting 2000) nofun rfl
      (mayStop_of_carries (serves.1 serving)).2).1 (serves.1 serving)
  · exact (exec_leaving (allowed := mayReset) free takes (.resetting 2000) nofun rfl
      ((mayReset_iff _).2 notResetting)).2 (mt serves.2 silent)
  · exact exec_segmentCommand_refused (allowed := mayReset) free takes rfl
      (Bool.eq_false_iff.2 fun may => (mayReset_iff _).1 may refused)

end Sys2Proof.Machine
end

section

/-! Trunk loss in the Transit Table (R57), and the legs' invariant where QUEUED legs are withdrawn (R54, R57). -/

namespace Sys2Proof.Machine

/-! ## An entry that has lost its QUEUED legs and its wait -/

namespace DataEntry
variable (d : DataEntry)

theorem dropWait_waiting : d.dropWait.waiting = none := by
  obtain ⟨phase, bank, window, parts, request, legs, noneLeft⟩ := d
  cases request <;> rfl

theorem dropWait_phase : d.dropWait.phase = d.phase := by
  unfold dropWait
  split <;> rfl

theorem dropWait_bank : d.dropWait.bank = d.bank := by
  unfold dropWait
  split <;> rfl

theorem withdrawn_not_queued : ∀ l ∈ d.withdrawn.legs, l.state ≠ .queued := by
  intro l on
  obtain ⟨l', -, rfl⟩ := List.mem_map.1 on
  split
  · nofun
  · assumption

theorem anyInFlight_of_none {d : DataEntry} (noneQueued : ∀ l ∈ d.legs, l.state ≠ .queued)
    (noneSent : d.anySent = false) : d.anyInFlight = false := by
  simp only [anyInFlight, anySent, List.any_eq_false, beq_iff_eq] at noneSent ⊢
  intro l on inFlight
  have notQueued := noneQueued l on
  have notSent := noneSent l on
  cases state : l.state <;> simp_all [LegState.inFlight]

end DataEntry

namespace State
variable {s : State}

theorem LegsKept.withdrawQueued_dropWait (h : LegsKept [] s) (t : Tag) : LegsKept [] ((s.withdrawQueued t).dropWait t) := by
  have withdrawn : LegsKept [] (s.withdrawQueued t) := Keeps.foldl _ (fun _ g h => h.withdrawFrom t g) _ h
  unfold State.dropWait
  split
  · rename_i d e
    refine withdrawn.move e (.of_legs d.dropWait_phase (.inl d.dropWait_waiting) (by simp))
  · exact withdrawn

/-- An entry without a QUEUED leg or a wait may take any phase. -/
theorem LegsKept.setPhase (h : LegsKept [] s) {t : Tag} {d : DataEntry} (e : s.entry t = .data d)
    (noWait : d.waiting = none) (noneQueued : ∀ l ∈ d.legs, l.state ≠ .queued) (phase : Phase) :
    LegsKept [] (s.setEntry t (.data { d with phase := phase })) := by
  refine ⟨h.placed.setEntry e (fun _ _ _ _ => Iff.rfl) (Nat.le_refl _), h.withdrawn.setEntry ?_⟩
  rintro _ ⟨⟩ -
  exact ⟨noWait, noneQueued⟩

theorem abandon_of_abandoned {t : Tag} {d : DataEntry} (e : s.entry t = .data d) (phase : d.phase = .abandoned) : s.abandon t = s := by
  simp only [abandon, e, phase, if_true]

/-- A READ or WRITE that loses the trunk (R57). -/
theorem abandon_eq (h : LegsKept [] s) {t : Tag} {d : DataEntry} (e : s.entry t = .data d) (phase : d.phase ≠ .abandoned) :
    let v := setEntry { s with sc := s.sc.map fun c => c.without t } t (.data d.dropWait.withdrawn)
    s.abandon t = if d.legs.any (fun l => l.state == .sent) then
        setEntry { s with sc := s.sc.map fun c => c.without t } t (.data { d.dropWait.withdrawn with phase := .abandoned })
      else v.dropEntry t := by
  intro v
  have withdraws := withdrawQueued_dropWait (placed_nil_iff.1 h.placed) e
  rw [abandon, e]
  dsimp only
  rw [if_neg phase, withdraws]
  simp only [entry_setEntry_self, DataEntry.anySent_withdrawn, DataEntry.dropWait_legs, setEntry_setEntry]
  rfl

theorem freeable_withdrawn {u : State} {t : Tag} {d : DataEntry} (e : u.entry t = .data d.dropWait.withdrawn)
    (noneSent : (d.legs.any fun l => l.state == .sent) = false) : u.Freeable t := by
  have none : d.dropWait.withdrawn.anySent = false := by
    rw [DataEntry.anySent_withdrawn, DataEntry.dropWait_legs, noneSent]
  intro d' e'
  cases e.symm.trans e'
  exact ⟨none, fun _ => DataEntry.anyInFlight_of_none d.dropWait.withdrawn_not_queued none⟩

theorem LegsKept.abandon (h : LegsKept [] s) (t : Tag) : LegsKept [] (s.abandon t) := by
  cases e : s.entry t with
  | free => simpa only [State.abandon, e] using h
  | flushing b n => simpa only [State.abandon, e] using h
  | data d =>
    by_cases phase : d.phase = .abandoned
    · rwa [abandon_of_abandoned e phase]
    · have after := h.withdrawQueued_dropWait t
      rw [State.withdrawQueued_dropWait (placed_nil_iff.1 h.placed) e] at after
      rw [abandon_eq h e phase]
      split
      · rw [← setEntry_setEntry]
        exact after.setPhase (entry_setEntry_self ..) d.dropWait_waiting d.dropWait.withdrawn_not_queued _
      · rename_i noneSent
        exact (LegsKept.outcomes []).dropEntry
          (freeable_withdrawn (entry_setEntry_self ..) (Bool.eq_false_iff.2 noneSent)) after

theorem LegsKept.rise (h : LegsKept [] s) (g : SegId) : LegsKept [] (s.rise g) := by
  refine h.congr (fun _ => rfl) (fun g' => ?_) fun g' => ?_
  · rw [State.rise, seg_setSeg]
    split
    · subst g'
      rfl
    · rfl
  · rw [State.rise, seg_setSeg]
    split
    · subst g'
      rfl
    · rfl

theorem LegsKept.cancelPending (h : LegsKept [] s) {t : Tag} {d : DataEntry} (e : s.entry t = .data d) : LegsKept [] (s.cancelPending t) := by
  unfold State.cancelPending
  refine Keeps.foldl _ (fun _ g h => (h.rise g).offerRise g) _ ?_
  have after := h.withdrawQueued_dropWait t
  rw [State.withdrawQueued_dropWait (placed_nil_iff.1 h.placed) e] at after ⊢
  simp only [entry_setEntry_self]
  split
  · exact after.setPhase (entry_setEntry_self ..) d.dropWait_waiting d.dropWait.withdrawn_not_queued _
  · rename_i noneSent
    rw [DataEntry.anySent_withdrawn, DataEntry.dropWait_legs] at noneSent
    exact (LegsKept.outcomes []).answerEntry _
      (freeable_withdrawn (entry_setEntry_self ..) (Bool.eq_false_iff.2 noneSent)) after

end State

/-! ## What trunk loss keeps -/

namespace State

/-- What the Transit Table leaves alone at trunk loss, and the books it keeps (R21, R57, R168). -/
structure LossKeeps (s u : State) : Prop where
  tp : u.tp = { s.tp with held := u.tp.held }
  held : s.tp.held = s.openTags.length → u.tp.held = u.openTags.length
  inflight : s.InflightExact → u.InflightExact
  wb : u.wb = { s.wb with inflightA := u.wb.inflightA, inflightB := u.wb.inflightB }
  cb : u.cb = s.cb
  pins : u.pins = s.pins
  pending : u.pending = s.pending
  au : u.au = { s.au with levels := u.au.levels }
  level : ∀ l, l ≠ 6 → u.level l = s.level l

namespace LossKeeps
variable {s u v : State}

theorem refl (s : State) : LossKeeps s s := ⟨rfl, id, id, rfl, rfl, rfl, rfl, rfl, fun _ _ => rfl⟩

theorem trans (first : LossKeeps s u) (second : LossKeeps u v) : LossKeeps s v where
  tp := second.tp.trans (congrArg (fun p : TrunkPort => { p with held := v.tp.held }) first.tp)
  held h := second.held (first.held h)
  inflight h := second.inflight (first.inflight h)
  wb := second.wb.trans (congrArg
    (fun b : WindowBanks => { b with inflightA := v.wb.inflightA, inflightB := v.wb.inflightB }) first.wb)
  cb := second.cb.trans first.cb
  pins := second.pins.trans first.pins
  pending := second.pending.trans first.pending
  au := second.au.trans (congrArg (fun a : AttentionUnit => { a with levels := v.au.levels }) first.au)
  level l ne := (second.level l ne).trans (first.level l ne)

theorem au_eq_of_fields (nextSequence : u.au.nextSequence = s.au.nextSequence) (interval : u.au.interval = s.au.interval) :
    u.au = { s.au with levels := u.au.levels } := by
  show u.au = { levels := u.au.levels, nextSequence := s.au.nextSequence, interval := s.au.interval }
  rw [← nextSequence, ← interval]

/-- An open entry is freed without a response. -/
theorem free {t : Tag} (inUse : s.tagInUse t = true) : LossKeeps s ((s.releaseHold.uncountEntry t).clearEntry t) := by
  have tt : (s.releaseHold.uncountEntry t).tt = s.tt := uncountEntry_tt ..
  refine ⟨?_, fun held => ?_, fun exact => InflightExact.free (s := s.releaseHold) exact t, ?_, ?_, ?_, ?_, ?_, fun l ne => ?_⟩
  · rw [clearEntry_tp, uncountEntry_tp]
    rfl
  · have counted := openTags_clearEntry (s.releaseHold.uncountEntry t) t
    rw [entry_eq_of_tt tt, show (s.entry t).isOpen = true from inUse, openTags_congr tt] at counted
    rw [clearEntry_tp, uncountEntry_tp]
    show s.tp.held - 1 = _
    have : true.toNat = 1 := rfl
    omega
  · rw [clearEntry_wb]
    exact (SameOutside.uncountEntry s.releaseHold t).wb
  · rw [clearEntry_cb, uncountEntry_cb]
    rfl
  · rw [clearEntry_pins, uncountEntry_pins]
    rfl
  · rw [clearEntry_pending, uncountEntry_pending]
    rfl
  · exact au_eq_of_fields (uncountEntry_au_nextSequence s.releaseHold t) (uncountEntry_au_interval s.releaseHold t)
  · rw [clearEntry_level, level_uncountEntry _ _ _ ne]
    rfl

/-- An open READ or WRITE stays open under its bank, and legs leave the queues. -/
theorem change {t : Tag} {d d' : DataEntry} (e : s.entry t = .data d) (bank : d'.bank = d.bank) (sc : Vector SegCtl 4) :
    LossKeeps s (setEntry { s with sc := sc } t (.data d')) := by
  refine ⟨rfl, fun held => ?_, fun exact => ?_, rfl, rfl, rfl, rfl, rfl, fun l ne => rfl⟩
  · have counted := openTags_setEntry { s with sc := sc } t (.data d')
    rw [show State.entry { s with sc := sc } t = .data d from e,
      openTags_congr (show ({ s with sc := sc } : State).tt = s.tt from rfl)] at counted
    exact held.trans (by simpa [Entry.isOpen] using counted.symm)
  · refine InflightExact.setEntry (s := { s with sc := sc }) exact fun which => ?_
    rw [show State.entry { s with sc := sc } t = .data d from e]
    simp [Entry.isUnder, bank]

end LossKeeps

/-! ## FLUSHes at trunk loss -/

variable {s : State}

theorem dropFlush_eq {t : Tag} {b : List Tag} {n : Nat} (e : s.entry t = .flushing b n) :
    s.dropFlush t = (s.releaseHold.uncountEntry t).clearEntry t := by
  rw [uncountEntry_flushing (s := s.releaseHold) e]
  simp only [dropFlush, e]

/-- The FLUSHes among the given tags have been freed; READs and WRITEs are as they were. -/
structure FlushesGone (s u : State) (ts : List Tag) : Prop where
  keeps : LossKeeps s u
  segs : ∀ g, u.seg g = s.seg g
  data : ∀ t d, u.entry t = .data d ↔ s.entry t = .data d
  gone : ∀ t b n, u.entry t = .flushing b n → t ∉ ts ∧ ∃ b, s.entry t = .flushing b n

theorem FlushesGone.refl {s : State} {t : Tag} (none : ∀ b n, s.entry t ≠ .flushing b n) : FlushesGone s s [t] :=
  ⟨.refl s, fun _ => rfl, fun _ _ => Iff.rfl, fun u b n e =>
    ⟨fun on => by cases List.mem_singleton.1 on; exact none b n e, b, e⟩⟩

theorem dropFlush_gone (s : State) (t : Tag) : FlushesGone s (s.dropFlush t) [t] := by
  cases e : s.entry t with
  | free => simpa only [dropFlush, e] using FlushesGone.refl (by simp [e])
  | data d => simpa only [dropFlush, e] using FlushesGone.refl (by simp [e])
  | flushing b n =>
    have inUse : s.tagInUse t = true := by simp [tagInUse, e, Entry.isOpen]
    rw [dropFlush_eq e]
    refine ⟨.free inUse, fun g => ?_, fun u d => ?_, fun u b' n' eu => ?_⟩
    · rw [clearEntry_seg, uncountEntry_seg]
      rfl
    · rw [entry_clearEntry_eq_data, uncountEntry_entry]
      exact ⟨fun h => h.2, fun data => ⟨fun same => by simp [same, e] at data, data⟩⟩
    · rw [entry_clearEntry, uncountEntry_entry] at eu
      split at eu
      · cases eu
      · rename_i other
        refine ⟨by simpa using other, ?_⟩
        cases was : s.entry u with
        | free => simp [was, Entry.dropBarrierTag, releaseHold_entry] at eu
        | data d => simp [was, Entry.dropBarrierTag, releaseHold_entry] at eu
        | flushing b'' n'' =>
          simp only [releaseHold_entry, was, Entry.dropBarrierTag, Entry.flushing.injEq] at eu
          exact ⟨b'', by rw [eu.2]⟩

theorem FlushesGone.trans {u v : State} {ts ts' : List Tag} (first : FlushesGone s u ts) (second : FlushesGone u v ts') :
    FlushesGone s v (ts ++ ts') := by
  refine ⟨first.keeps.trans second.keeps, fun g => (second.segs g).trans (first.segs g),
    fun t d => (second.data t d).trans (first.data t d), fun t b n e => ?_⟩
  obtain ⟨later, b', e'⟩ := second.gone t b n e
  obtain ⟨earlier, rest⟩ := first.gone t b' n e'
  exact ⟨by simp [earlier, later], rest⟩

theorem foldl_dropFlush (ts : List Tag) (s : State) : FlushesGone s (ts.foldl dropFlush s) ts := by
  induction ts generalizing s with
  | nil => exact ⟨.refl s, fun _ => rfl, fun _ _ => Iff.rfl, fun t b n e => ⟨by simp, b, e⟩⟩
  | cons t ts ih => exact (dropFlush_gone s t).trans (ih _)

/-! ## READs and WRITEs at trunk loss -/

/-- An entry after trunk loss, once no FLUSH is left (R57). -/
def lostEntry (e : Entry) : Entry :=
  match e with
  | .data d =>
    if d.phase = .abandoned then .data d
    else if d.legs.any (fun l => l.state == .sent) then .data { d.dropWait.withdrawn with phase := .abandoned }
    else .free
  | e => e

theorem lostEntry_of_not_data {e : Entry} (none : ∀ d, e ≠ .data d) : lostEntry e = e := by
  cases e with
  | data d => exact absurd rfl (none d)
  | free => rfl
  | flushing b n => rfl

theorem lostEntry_ne_flushing {e : Entry} (none : ∀ b n, e ≠ .flushing b n) (b : List Tag) (n : Nat) :
    lostEntry e ≠ .flushing b n := by
  cases e with
  | data d =>
    unfold lostEntry
    dsimp only
    split_ifs <;> nofun
  | free => nofun
  | flushing b' n' => exact absurd rfl (none b' n')

theorem dropBarrierTag_of_not_flushing {e : Entry} (none : ∀ b n, e ≠ .flushing b n) (t : Tag) :
    e.dropBarrierTag t = e := by
  cases e with
  | data d => rfl
  | free => rfl
  | flushing b n => exact absurd rfl (none b n)

/-- An entry with no QUEUED leg has none in a queue. -/
theorem LegsKept.without_eq (h : LegsKept [] s) {t : Tag}
    (none : ∀ d, s.entry t = .data d → ∀ l ∈ d.legs, l.state ≠ .queued) (g : SegId) : (s.seg g).without t = s.seg g := by
  have same : ((s.seg g).queue.filter fun r => r.entry != t) = (s.seg g).queue := by
    refine List.filter_eq_self.2 fun r on => ?_
    obtain ⟨d, e, l, here, -, queued⟩ := ((h.placed.queued g r).1 on).1
    refine bne_iff_ne.2 fun own => none d (own ▸ e) l (List.mem_of_getElem? here) queued
  rw [SegCtl.without, same]

/-- One tag at trunk loss: its READ or WRITE is lost, and its legs leave the queues. -/
theorem abandon_spec (h : LegsKept [] s) (noFlush : ∀ v b n, s.entry v ≠ .flushing b n) (t : Tag) :
    LossKeeps s (s.abandon t) ∧ (∀ g, (s.abandon t).seg g = (s.seg g).without t) ∧
      ∀ v, (s.abandon t).entry v = if v = t then lostEntry (s.entry t) else s.entry v := by
  have stays : s.abandon t = s → lostEntry (s.entry t) = s.entry t →
      (∀ d, s.entry t = .data d → ∀ l ∈ d.legs, l.state ≠ .queued) →
      LossKeeps s (s.abandon t) ∧ (∀ g, (s.abandon t).seg g = (s.seg g).without t) ∧
        ∀ v, (s.abandon t).entry v = if v = t then lostEntry (s.entry t) else s.entry v := by
    intro same lost none
    rw [same, lost]
    refine ⟨.refl s, fun g => (h.without_eq none g).symm, fun v => ?_⟩
    split
    · rename_i own
      rw [own]
    · rfl
  cases e : s.entry t with
  | flushing b n => exact absurd e (noFlush t b n)
  | free =>
    rw [← e]
    exact stays (by simp only [abandon, e]) (by rw [e]; rfl) (by simp [e])
  | data d =>
    by_cases phase : d.phase = .abandoned
    · rw [← e]
      refine stays (abandon_of_abandoned e phase) (by rw [e, lostEntry, if_pos phase]) fun d' e' => ?_
      cases e.symm.trans e'
      exact (h.withdrawn t d e (by simp [phase])).2
    · have segs : ∀ g, State.seg { s with sc := s.sc.map fun c => c.without t } g = (s.seg g).without t := by
        simp [seg]
      rw [abandon_eq h e phase]
      simp only [lostEntry, if_neg phase]
      split
      · refine ⟨.change (d' := { d.dropWait.withdrawn with phase := .abandoned }) e d.dropWait_bank _, segs, fun v => ?_⟩
        rw [entry_setEntry]
        rfl
      · let v := setEntry { s with sc := s.sc.map fun c => c.without t } t (.data d.dropWait.withdrawn)
        have entry : v.entry t = .data d.dropWait.withdrawn := entry_setEntry_self ..
        have freed : ∀ u, ((v.releaseHold.uncountEntry t).clearEntry t).entry u = if u = t then .free else s.entry u := by
          intro u
          rw [entry_clearEntry, uncountEntry_entry]
          split
          · rfl
          · rename_i other
            rw [show v.releaseHold.entry u = s.entry u from entry_setEntry_of_ne _ _ other,
              dropBarrierTag_of_not_flushing (noFlush u)]
        have quiet : v.dropEntry t = (v.releaseHold.uncountEntry t).clearEntry t := by
          refine releaseChain_idle (.inr fun u n eu => ?_)
          rw [freed u] at eu
          split at eu
          · cases eu
          · exact noFlush u [] n eu
        rw [show setEntry { s with sc := s.sc.map fun c => c.without t } t (.data d.dropWait.withdrawn) = v from rfl, quiet]
        refine ⟨.trans (u := v) (.change (d' := d.dropWait.withdrawn) e d.dropWait_bank _)
          (.free (Keeps.inUse_of_data entry)), fun g => ?_, freed⟩
        rw [clearEntry_seg, uncountEntry_seg]
        exact segs g

/-- The READs and WRITEs among the given tags have lost the trunk. -/
structure Lost (s u : State) (ts : List Tag) : Prop where
  keeps : LossKeeps s u
  legs : LegsKept [] u
  noFlush : ∀ t b n, u.entry t ≠ .flushing b n
  segs : ∀ g, u.seg g = { s.seg g with queue := (s.seg g).queue.filter fun r => decide (r.entry ∉ ts) }
  entries : ∀ t, u.entry t = if t ∈ ts then lostEntry (s.entry t) else s.entry t

theorem Lost.abandon {u : State} {ts : List Tag} (h : Lost s u ts) {t : Tag} (fresh : t ∉ ts) :
    Lost s (u.abandon t) (ts ++ [t]) := by
  obtain ⟨keeps, segs, entries⟩ := abandon_spec h.legs h.noFlush t
  have own : u.entry t = s.entry t := by rw [h.entries, if_neg fresh]
  refine ⟨h.keeps.trans keeps, h.legs.abandon t, fun v b n => ?_, fun g => ?_, fun v => ?_⟩
  · rw [entries]
    split
    · exact lostEntry_ne_flushing (h.noFlush t) b n
    · exact h.noFlush v b n
  · rw [segs, h.segs, SegCtl.without]
    simp only [List.filter_filter]
    congr 2
    funext r
    by_cases same : r.entry = t <;> simp [same]
  · rw [entries, h.entries v, own]
    by_cases same : v = t
    · simp [same]
    · simp [same]

theorem foldl_abandon {ts done : List Tag} (nodup : (done ++ ts).Nodup) {u : State} (h : Lost s u done) :
    Lost s (ts.foldl State.abandon u) (done ++ ts) := by
  induction ts generalizing done u with
  | nil => simpa using h
  | cons t ts ih =>
    have fresh : t ∉ done := fun on => (List.nodup_append.1 nodup).2.2 t on t (by simp) rfl
    have next := ih (done := done ++ [t]) (by simpa using nodup) (h.abandon fresh)
    simpa using next

/-- The Transit Table at trunk loss, in a state whose leg records stand in their places (R57). -/
theorem transitLoss_spec (h : LegsKept [] s) :
    LossKeeps s s.transitLoss ∧ LegsKept [] s.transitLoss ∧ (∀ g, s.transitLoss.seg g = { s.seg g with queue := [] }) ∧
      ∀ t, s.transitLoss.entry t = match s.entry t with
        | .data d => lostEntry (.data d)
        | _ => .free := by
  have flushed := foldl_dropFlush allTags s
  have noFlush : ∀ t b n, (allTags.foldl dropFlush s).entry t ≠ .flushing b n := fun t b n e =>
    (flushed.gone t b n e).1 (mem_allTags t)
  have legs : LegsKept [] (allTags.foldl dropFlush s) := by
    refine ⟨h.placed.congr (fun g => by rw [flushed.segs]) (fun g => by rw [flushed.segs]) (fun g st r _ => ?_) (by simp),
      h.withdrawn.fewer fun t d => (flushed.data t d).1⟩
    simp only [Stands, flushed.data]
  have lost := foldl_abandon (done := []) (ts := allTags) allTags_nodup
    ⟨.refl _, legs, noFlush, fun g => by simp, fun t => by simp⟩
  unfold State.transitLoss
  refine ⟨flushed.keeps.trans lost.keeps, lost.legs, fun g => ?_, fun t => ?_⟩
  · rw [lost.segs, flushed.segs]
    simp [mem_allTags]
  · rw [lost.entries, if_pos (by simp [mem_allTags])]
    cases e : s.entry t with
    | data d => rw [(flushed.data t d).2 e]
    | free | flushing _ _ =>
      cases after : (allTags.foldl dropFlush s).entry t with
      | free => rfl
      | flushing b n => exact absurd after (noFlush t b n)
      | data d => simp [(flushed.data t d).1 after] at e

end State

/-- Settles O10: FLUSHes are freed; READs and WRITEs are abandoned or freed; the books are kept. -/
theorem lossAbandonsEntries : Obligations.LossAbandonsEntries := by
  intro s placed withdrawn t
  obtain ⟨keeps, legs, segs, entries⟩ := State.transitLoss_spec ⟨State.placed_nil_iff.2 placed, withdrawn⟩
  refine ⟨fun u => ?_, segs, fun held => ?_, keeps.inflight, keeps.wb, keeps.cb, keeps.pins, keeps.pending, keeps.au,
    keeps.level⟩
  · rw [show t.entry u = _ from entries u]
    cases s.entry u with
    | free | flushing _ _ => rfl
    | data d =>
      simp only [State.lostEntry, DataEntry.withdrawn, DataEntry.dropWait_legs]
      rfl
  · rw [← keeps.held held]
    exact keeps.tp

end Sys2Proof.Machine
end

section

/-! The legs' invariant (R44) where the lists of a segment change: sending, answers, rewinds, leaving service. -/

namespace Sys2Proof.Machine

namespace State
variable {s v : State}

/-! ## One segment's lists -/

/-- Legs of one segment take a new state and stand in the list it asks for; others of its legs leave their lists with
their outcomes to come. -/
theorem Placed.move (h : Placed [] s) {g : SegId} {moved out : List LegRef} {next : LegState}
    (onSeg : ∀ r ∈ moved ++ out, ∃ st, s.Stands g st r) (apart : ∀ r ∈ moved, r ∉ out)
    (stands : ∀ g' st r, st.inFlight = true →
      (v.Stands g' st r ↔ if r ∈ moved then g' = g ∧ st = next else s.Stands g' st r))
    (others : ∀ g', g' ≠ g → v.seg g' = s.seg g')
    (queue : ∀ r, r ∈ (v.seg g).queue ↔ if r ∈ moved then next = .queued else r ∈ (s.seg g).queue ∧ r ∉ out)
    (sent : ∀ r, r ∈ (v.seg g).sent.map SentLeg.ref ↔
      if r ∈ moved then next = .sent else r ∈ (s.seg g).sent.map SentLeg.ref ∧ r ∉ out)
    (once : ((v.seg g).queue ++ (v.seg g).sent.map SentLeg.ref).Nodup)
    (inside : ∀ r ∈ out, ∀ d, v.entry r.entry = .data d → r.index < d.legs.length) : Placed out v := by
  have elsewhere : ∀ {g' st r}, g' ≠ g → s.Stands g' st r → r ∉ moved ++ out := fun ne here on => by
    obtain ⟨st', there⟩ := onSeg _ on
    exact ne (here.unique there).1
  refine ⟨fun g' r => ?_, fun g' r => ?_, fun g' => ?_, inside⟩
  · rw [stands g' .queued r rfl]
    by_cases here : g' = g
    · subst here
      rw [queue]
      split
      · rename_i on
        simp [apart r on, eq_comm]
      · rw [h.queued]
        simp
    · rw [others g' here, h.queued]
      constructor
      · rintro ⟨there, -⟩
        have away := elsewhere here there
        simp only [List.mem_append, not_or] at away
        simp [away, there]
      · rintro ⟨there, -⟩
        split at there
        · exact absurd there.1 here
        · exact ⟨there, by simp⟩
  · rw [stands g' .sent r rfl]
    by_cases here : g' = g
    · subst here
      rw [sent]
      split
      · rename_i on
        simp [apart r on, eq_comm]
      · rw [h.sent]
        simp
    · rw [others g' here, h.sent]
      constructor
      · rintro ⟨there, -⟩
        have away := elsewhere here there
        simp only [List.mem_append, not_or] at away
        simp [away, there]
      · rintro ⟨there, -⟩
        split at there
        · exact absurd there.1 here
        · exact ⟨there, by simp⟩
  · by_cases here : g' = g
    · exact here ▸ once
    · rw [others g' here]
      exact h.once g'

theorem Placed.inside_of_stands {t : Tag} {d : DataEntry} {g : SegId} {st : LegState} {i : Nat} (e : s.entry t = .data d)
    (stands : s.Stands g st ⟨t, i⟩) : i < d.legs.length := ((stands_of_entry e).1 stands).index_lt

/-- Legs leave the lists of their segment (R108, R109, R117, R119). -/
theorem Placed.takeOut (h : Placed [] s) {g : SegId} {c : SegCtl} {out : List LegRef}
    (onSeg : ∀ r ∈ out, r ∈ (s.seg g).queue ∨ r ∈ (s.seg g).sent.map SentLeg.ref)
    (queue : ∀ r, r ∈ c.queue ↔ r ∈ (s.seg g).queue ∧ r ∉ out)
    (sent : ∀ r, r ∈ c.sent.map SentLeg.ref ↔ r ∈ (s.seg g).sent.map SentLeg.ref ∧ r ∉ out)
    (once : (c.queue ++ c.sent.map SentLeg.ref).Nodup) : Placed out (s.setSeg g c) := by
  have standing : ∀ r ∈ out, ∃ st, s.Stands g st r := fun r on =>
    (onSeg r on).elim (fun queued => ⟨_, ((h.queued g r).1 queued).1⟩) fun sent => ⟨_, ((h.sent g r).1 sent).1⟩
  refine h.move (g := g) (moved := []) (next := .queued) (by simpa using standing) (by simp) (fun _ _ _ _ => by simp; rfl)
    (fun g' ne => seg_setSeg_of_ne _ _ ne) (fun r => ?_) (fun r => ?_) (by rwa [seg_setSeg_self]) fun r on d e => ?_
  · simp [queue]
  · simp only [seg_setSeg_self, sent]
    simp
  · obtain ⟨st, stands⟩ := standing r on
    exact Placed.inside_of_stands e stands

/-- The one leg under a tag leaves the sent list. -/
theorem Placed.unsent (h : Placed [] s) {g : SegId} {x : SentLeg} (on : x ∈ (s.seg g).sent)
    (tags : ((s.seg g).sent.map SentLeg.tag).Nodup) {c : SegCtl} (queue : c.queue = (s.seg g).queue)
    (sent : c.sent = (s.seg g).sent.filter fun y => y.tag != x.tag) : Placed [x.ref] (s.setSeg g c) := by
  have once := h.once g
  have refs : ((s.seg g).sent.map SentLeg.ref).Nodup := (List.nodup_append.1 once).2.1
  have left : ∀ y ∈ (s.seg g).sent, y.tag ≠ x.tag ↔ y.ref ≠ x.ref := fun y hy =>
    not_congr ⟨fun same => congrArg SentLeg.ref (List.inj_on_of_nodup_map tags hy on same),
      fun same => congrArg SentLeg.tag (List.inj_on_of_nodup_map refs hy on same)⟩
  refine h.takeOut (by simpa using .inr ⟨x, on, rfl⟩) (fun r => ?_) (fun r => ?_) ?_
  · rw [queue]
    refine ⟨fun queued => ⟨queued, fun same => ?_⟩, And.left⟩
    rw [List.mem_singleton] at same
    exact (List.nodup_append.1 once).2.2 r queued x.ref (List.mem_map_of_mem on) same
  · rw [sent]
    constructor
    · intro hr
      obtain ⟨y, hy, rfl⟩ := List.mem_map.1 hr
      simp only [List.mem_filter, bne_iff_ne] at hy
      exact ⟨List.mem_map_of_mem hy.1, by simpa using (left y hy.1).1 hy.2⟩
    · rintro ⟨hr, other⟩
      obtain ⟨y, hy, rfl⟩ := List.mem_map.1 hr
      exact List.mem_map_of_mem (List.mem_filter.2 ⟨hy, bne_iff_ne.2 ((left y hy).2 (by simpa using other))⟩)
  · rw [queue, sent]
    exact once.sublist (.append_left (List.filter_sublist.map _) _)

/-- All of a segment's legs leave its lists (R119). -/
theorem Placed.emptied (h : Placed [] s) (g : SegId) {c : SegCtl} (queue : c.queue = []) (sent : c.sent = []) :
    Placed ((s.seg g).sent.map SentLeg.ref ++ (s.seg g).queue) (s.setSeg g c) := by
  refine h.takeOut (fun r on => (List.mem_append.1 on).symm) (fun r => ?_) (fun r => ?_) (by simp [queue, sent])
  · simp only [queue, List.mem_append, List.not_mem_nil]
    tauto
  · simp only [sent, List.mem_append, List.map_nil, List.not_mem_nil]
    tauto

/-! ## Sending -/

/-- One leg of an entry changes. -/
theorem stands_setEntry_set {x : LegRef} {d : DataEntry} {l m : Leg} (names : s.leg? x = some (d, l)) {g : SegId}
    {st : LegState} {r : LegRef} :
    (s.setEntry x.entry (.data { d with legs := d.legs.set x.index m })).Stands g st r ↔
      if r = x then m.seg = g ∧ m.state = st else s.Stands g st r := by
  obtain ⟨e, here⟩ := leg?_some names
  have below := (List.getElem?_eq_some_iff.1 here).1
  obtain ⟨t, i⟩ := r
  obtain ⟨t', j⟩ := x
  by_cases own : t = t'
  · subst own
    rw [stands_of_entry (entry_setEntry_self ..), stands_of_entry e]
    by_cases same : j = i
    · subst same
      simp [DataEntry.StandsAt, List.getElem?_set_self below]
    · simp [DataEntry.StandsAt, List.getElem?_set_ne same, Ne.symm same]
  · rw [stands_setEntry_of_ne own]
    simp [own]

theorem LegsKept.sendHead (h : LegsKept [] s) {g : SegId} {r : LegRef} {rest : List LegRef}
    (head : (s.seg g).queue = r :: rest) : LegsKept [] (s.sendHead g r rest) := by
  have stands := ((h.placed.queued g r).1 (by simp [head])).1
  obtain ⟨d, l, names, seg, -⟩ := stands_iff_leg?.1 stands
  let c : SegCtl := { s.seg g with
    queue := rest
    sent := (s.seg g).sent ++ [{ ref := r, tag := (s.seg g).legTag, timer := (s.seg g).legTimeout }]
    legTag := (s.seg g).legTag + 1
    line := (s.seg g).line ++ (s.legFrame? r (s.seg g).legTag).toList }
  let v := (s.setSeg g c).setEntry r.entry (.data { d with legs := d.legs.set r.index { l with state := .sent } })
  have sends : s.sendHead g r rest = v.count (segCounter g .legsSent) := by
    have named : (s.setSeg g c).leg? r = some (d, l) := names
    rw [State.sendHead, updateLeg_eq named]
  have once := h.placed.once g
  rw [head, List.cons_append, List.nodup_cons] at once
  have segment : v.seg g = c := seg_setSeg_self ..
  have kept : LegsKept [] v := by
    refine ⟨h.placed.move (v := v) (g := g) (moved := [r]) (out := []) (next := .sent) (by simpa using ⟨_, stands⟩) (by simp)
      (fun g' st r' _ => ?_) (fun g' ne => seg_setSeg_of_ne _ _ ne) (fun r' => ?_) (fun r' => ?_) ?_ (by simp), ?_⟩
    · rw [show v.Stands g' st r' ↔ _ from stands_setEntry_set (s := s.setSeg g c) names]
      simp only [List.mem_singleton, seg, eq_comm (a := g), eq_comm (a := LegState.sent)]
      rfl
    · rw [segment]
      by_cases own : r' = r
      · simp only [c, own, List.mem_singleton, if_true, reduceCtorEq, iff_false]
        exact fun on => once.1 (List.mem_append_left _ on)
      · simp [c, own, head]
    · rw [segment]
      by_cases own : r' = r <;> simp [c, own]
    · rw [segment]
      simp only [c, List.map_append, List.map_cons, List.map_nil]
      rw [← List.append_assoc]
      exact (List.Perm.nodup_iff (List.perm_append_singleton ..)).2 (List.nodup_cons.2 once)
    · refine Withdrawn.setEntry (s := s.setSeg g c) (h.withdrawn.fewer fun _ _ e => e) ?_
      rintro _ ⟨⟩ phase
      obtain ⟨noWait, noneQueued⟩ := h.withdrawn r.entry d (leg?_some names).1 phase
      refine ⟨noWait, fun l' on => ?_⟩
      rcases List.mem_or_eq_of_mem_set on with old | rfl
      · exact noneQueued l' old
      · nofun
  rw [sends]
  exact kept.congr (fun _ => rfl) (fun _ => rfl) fun _ => rfl

/-! ## The rewind -/

theorem stands_mapIdx_queued {d : DataEntry} {p : Nat → Prop} [DecidablePred p] {g : SegId} {st : LegState} {i : Nat} :
    ({ d with legs := d.legs.mapIdx fun i l => if p i then { l with state := .queued } else l } : DataEntry).StandsAt g st i ↔
      if p i then st = .queued ∧ ∃ st', d.StandsAt g st' i else d.StandsAt g st i := by
  simp only [DataEntry.StandsAt, List.getElem?_mapIdx, Option.map_eq_some_iff]
  split
  · constructor
    · rintro ⟨_, ⟨l, here, rfl⟩, rfl, rfl⟩
      exact ⟨rfl, _, l, here, rfl, rfl⟩
    · rintro ⟨rfl, _, l, here, rfl, -⟩
      exact ⟨_, ⟨l, here, rfl⟩, rfl, rfl⟩
  · simp

/-- A rewind up to the outcomes of the legs that are withdrawn (R116). -/
theorem LegsKept.rewound (h : LegsKept [] s) {g : SegId} {front run : List SentLeg}
    (split : (s.seg g).sent = front ++ run) :
    LegsKept ((run.map SentLeg.ref).filter fun r => !s.resendable r) (s.rewound g front run) := by
  let again := (run.map SentLeg.ref).filter s.resendable
  let gone := (run.map SentLeg.ref).filter fun r => !s.resendable r
  let v := s.rewound g front run
  have sentRefs : (s.seg g).sent.map SentLeg.ref = front.map SentLeg.ref ++ run.map SentLeg.ref := by rw [split, List.map_append]
  have runSent : ∀ r ∈ run.map SentLeg.ref, s.Stands g .sent r := fun r on =>
    ((h.placed.sent g r).1 (by rw [sentRefs]; exact List.mem_append_right _ on)).1
  have inRun : ∀ r ∈ again ++ gone, r ∈ run.map SentLeg.ref := by
    intro r on
    rcases List.mem_append.1 on with on | on
    · exact (List.mem_filter.1 on).1
    · exact (List.mem_filter.1 on).1
  have stands : ∀ g' st r, st.inFlight = true →
      (v.Stands g' st r ↔ if r ∈ again then g' = g ∧ st = .queued else s.Stands g' st r) := by
    rintro g' st ⟨t, i⟩ -
    cases e : s.entry t with
    | data d =>
      have after : v.entry t = _ := (s.rewound_entry g front run t).trans
        (foldl_updateLeg_of_data (f := fun l => { l with state := .queued }) _ (fun _ => rfl) e)
      rw [stands_of_entry after, stands_of_entry e]
      refine (stands_mapIdx_queued (p := fun i => (⟨t, i⟩ : LegRef) ∈ again)).trans ?_
      by_cases on : (⟨t, i⟩ : LegRef) ∈ again
      · have here := (stands_of_entry e).1 (runSent _ (inRun _ (List.mem_append_left _ on)))
        rw [if_pos on, if_pos on, and_comm]
        refine and_congr_left fun _ => ⟨fun ⟨st', there⟩ => ?_, fun same => ⟨_, same ▸ here⟩⟩
        exact (Stands.unique ((stands_of_entry e).2 there) ((stands_of_entry e).2 here)).1
      · rw [if_neg on, if_neg on]
    | free | flushing _ _ =>
      have noData : ∀ d, s.entry t ≠ .data d := by simp [e]
      have after : v.entry t = s.entry t := (s.rewound_entry g front run t).trans (foldl_updateLeg_of_not_data _ _ noData)
      have away : (⟨t, i⟩ : LegRef) ∉ again := fun on => by
        obtain ⟨d, ed, -⟩ := runSent _ (inRun _ (List.mem_append_left _ on))
        exact noData d ed
      rw [if_neg away]
      simp only [Stands, after]
  have segment : v.seg g = _ := (s.rewound_seg g front run g).trans (if_pos rfl)
  have once := h.placed.once g
  rw [sentRefs] at once
  refine ⟨h.placed.move (v := v) (g := g) (moved := again) (out := gone) (next := .queued)
    (fun r on => ⟨_, runSent r (inRun r on)⟩) (fun r on off => ?_) stands (fun g' ne => ?_) (fun r => ?_) (fun r => ?_)
    ?_ (fun r on d e => ?_), ?_⟩
  · have resends := (List.mem_filter.1 on).2
    have withdraws := (List.mem_filter.1 off).2
    simp [resends] at withdraws
  · exact (s.rewound_seg g front run g').trans (if_neg ne)
  · rw [segment]
    by_cases on : r ∈ again
    · simp [again, on]
    · have apart : r ∈ (s.seg g).queue → r ∉ gone := fun queued off =>
        (List.nodup_append.1 once).2.2 r queued r (List.mem_append_right _ (inRun r (List.mem_append_right _ off))) rfl
      rw [if_neg on, List.mem_append, or_iff_right on]
      exact ⟨fun queued => ⟨queued, apart queued⟩, And.left⟩
  · rw [segment, sentRefs]
    have apart : r ∈ front.map SentLeg.ref → r ∉ run.map SentLeg.ref := fun first later =>
      (List.nodup_append.1 (List.nodup_append.1 once).2.1).2.2 r first r later rfl
    have parted : r ∈ run.map SentLeg.ref → r ∉ again → r ∈ gone := fun on off =>
      List.mem_filter.2 ⟨on, by
        have notAgain : ¬ s.resendable r = true := fun resends => off (List.mem_filter.2 ⟨on, resends⟩)
        simpa using notAgain⟩
    by_cases on : r ∈ again
    · rw [if_pos on]
      exact iff_of_false (fun first => apart first (inRun r (List.mem_append_left _ on))) nofun
    · rw [if_neg on, List.mem_append]
      constructor
      · exact fun first => ⟨.inl first, fun off => apart first (inRun r (List.mem_append_right _ off))⟩
      · rintro ⟨first | later, off⟩
        · exact first
        · exact absurd (parted later on) off
  · rw [segment]
    have fewer : ((s.seg g).queue ++ front.map SentLeg.ref ++ again).Nodup := by
      rw [← List.append_assoc] at once
      exact once.sublist (.append_left List.filter_sublist _)
    refine (List.Perm.nodup_iff ?_).1 fewer
    rw [List.append_assoc (List.filter _ _)]
    exact List.perm_append_comm
  · obtain ⟨d₀, e₀, here⟩ := runSent r (inRun r (List.mem_append_right _ on))
    have after := (s.rewound_entry g front run r.entry).trans
      (foldl_updateLeg_of_data (f := fun l => { l with state := .queued }) _ (fun _ => rfl) e₀)
    cases (show v.entry r.entry = _ from after).symm.trans e
    simpa using here.index_lt
  · intro t d e phase
    cases e₀ : s.entry t with
    | free | flushing _ _ =>
      have after := (s.rewound_entry g front run t).trans
        (foldl_updateLeg_of_not_data (t := t) _ (fun l => { l with state := .queued }) (by simp [e₀]))
      simp [e₀] at after
      cases (show v.entry t = _ from after).symm.trans e
    | data d₀ =>
      have after := (s.rewound_entry g front run t).trans
        (foldl_updateLeg_of_data (f := fun l => { l with state := .queued }) _ (fun _ => rfl) e₀)
      cases (show v.entry t = _ from after).symm.trans e
      obtain ⟨noWait, noneQueued⟩ := h.withdrawn t d₀ e₀ phase
      refine ⟨noWait, fun l on => ?_⟩
      obtain ⟨i, below, rfl⟩ := List.mem_mapIdx.1 on
      split
      · rename_i resends
        obtain ⟨d', l', names, pending, -⟩ := (s.resendable_iff _).1 (List.mem_filter.1 resends).2
        cases e₀.symm.trans (leg?_some names).1
        exact absurd pending phase
      · exact noneQueued _ (List.getElem_mem below)

end State

end Sys2Proof.Machine
end

section

/-! Every step keeps the legs in their places (R44, R54, R57). -/

namespace Sys2Proof.Machine

namespace State
variable {s u : State}

/-- Changes that touch neither the table nor a segment's lists. -/
structure SameLegs (s u : State) : Prop where
  entries : ∀ t, u.entry t = s.entry t
  queue : ∀ g, (u.seg g).queue = (s.seg g).queue
  sent : ∀ g, (u.seg g).sent.map SentLeg.ref = (s.seg g).sent.map SentLeg.ref

theorem LegsKept.same {out : List LegRef} (h : LegsKept out s) (same : SameLegs s u) : LegsKept out u :=
  h.congr same.entries same.queue same.sent

namespace SameLegs

theorem refl (s : State) : SameLegs s s := ⟨fun _ => rfl, fun _ => rfl, fun _ => rfl⟩

theorem trans {v : State} (first : SameLegs s u) (second : SameLegs u v) : SameLegs s v :=
  ⟨fun t => (second.entries t).trans (first.entries t), fun g => (second.queue g).trans (first.queue g),
    fun g => (second.sent g).trans (first.sent g)⟩

/-- Table and segments as they were. -/
theorem of_blocks (tt : u.tt = s.tt) (sc : u.sc = s.sc) : SameLegs s u :=
  ⟨fun t => entry_eq_of_tt tt t, fun g => by rw [seg_eq_of_sc sc], fun g => by rw [seg_eq_of_sc sc]⟩

theorem setSeg {g : SegId} {c : SegCtl} (queue : c.queue = (s.seg g).queue) (sent : c.sent = (s.seg g).sent) :
    SameLegs s (s.setSeg g c) := by
  refine ⟨fun _ => rfl, fun h => ?_, fun h => ?_⟩
  · rw [seg_setSeg]
    split
    · subst h
      exact queue
    · rfl
  · rw [seg_setSeg]
    split
    · subst h
      rw [sent]
    · rfl

theorem foldl {α : Type} {f : State → α → State} (same : ∀ s a, SameLegs s (f s a)) (as : List α) (s : State) :
    SameLegs s (as.foldl f s) := by
  induction as generalizing s with
  | nil => exact .refl s
  | cons a as ih => exact (same s a).trans (ih _)

theorem elapse (s : State) (n : Nat) : SameLegs s (s.elapse n) := by
  refine ⟨fun _ => rfl, fun g => ?_, fun g => ?_⟩
  · rw [seg_elapse]
    rfl
  · rw [seg_elapse, SegCtl.elapse, List.map_map]
    rfl

theorem offerDelivery (s : State) (told : Bool) : SameLegs s (s.offerDelivery told) := by
  unfold State.offerDelivery
  split
  · split
    · split
      · exact .of_blocks rfl rfl
      · exact .refl s
    · exact .refl s
  · exact .refl s

theorem offerResend (s : State) (l : LevelId) : SameLegs s (s.offerResend l) := by
  unfold State.offerResend
  split
  · split
    · exact .of_blocks rfl rfl
    · exact .refl s
  · exact .refl s

theorem finish (s before : State) : SameLegs s (s.finish before) := by
  unfold State.finish
  exact (foldl offerResend _ s).trans (offerDelivery ..)

theorem resendExpired (s : State) (l : LevelId) (v : Service) : SameLegs s (s.resendExpired l v) := by
  unfold State.resendExpired
  split
  · exact .of_blocks rfl rfl
  · split <;> exact .of_blocks rfl rfl

theorem takeReport (s : State) (g : SegId) (source : Byte) : SameLegs s (s.takeReport g source) := by
  unfold State.takeReport
  dsimp only
  split
  · exact .refl s
  · split
    · have queued : SameLegs s (s.setSeg g { s.seg g with attention := (s.seg g).attention ++ [source] }) := .setSeg rfl rfl
      split <;> exact queued.trans (.of_blocks rfl rfl)
    · exact .of_blocks rfl rfl

theorem placeOnLine (s : State) (g : SegId) (w : DownFrame) : SameLegs s (s.placeOnLine g w) := .setSeg rfl rfl

theorem serveReports (s : State) (g : SegId) : SameLegs s (s.serveReports g) := by
  unfold State.serveReports
  split
  · split
    · exact .refl _
    · rename_i head rest _
      have served : SameLegs s ((s.setSeg g { s.seg g with attention := rest }).placeOnLine g (.attnAck head)) :=
        .trans (.setSeg (c := { s.seg g with attention := rest }) rfl rfl) (placeOnLine ..)
      dsimp only
      split
      · exact served
      · exact served.trans (.of_blocks rfl rfl)
  · exact .refl _

theorem releaseLevel (s : State) (l : LevelId) : SameLegs s (s.releaseLevel l) := by
  have freed : SameLegs s (s.setLevel l { s.level l with service := none }) := .of_blocks rfl rfl
  unfold State.releaseLevel
  dsimp only
  split
  · exact freed.trans (serveReports ..)
  · exact freed

theorem writeObject (s : State) (x : Word) (o : ControlObject) : SameLegs s (s.writeObject x o) := by
  cases o with
  | sendWindow g | legTimeout g | faultThreshold g => exact .setSeg rfl rfl
  | _ => exact .of_blocks rfl rfl

theorem readEffect (s : State) (o : ControlObject) : SameLegs s (s.readEffect o) := by
  cases o <;> exact .of_blocks rfl rfl

theorem receive (s : State) (words : List Word) : SameLegs s (s.receive words) := by
  unfold State.receive
  dsimp only
  split
  · exact .of_blocks rfl rfl
  · split
    · exact .of_blocks rfl rfl
    · split <;> exact .of_blocks rfl rfl

theorem runOut {n : Nat} (ran : s.runOut? n = some u) : SameLegs s u := by
  rcases runOut?_cases ran with rfl | rfl
  · exact .refl _
  · exact .elapse s n

theorem sendProbe (s : State) (g : SegId) (synced : Bool) : SameLegs s (s.sendProbe g synced) := .setSeg rfl rfl

end SameLegs

theorem standsAt_modify {d : DataEntry} {f : Leg → Leg} (same : ∀ l, (f l).seg = l.seg ∧ (f l).state = l.state) (k : Nat)
    {g : SegId} {st : LegState} {i : Nat} :
    ({ d with legs := d.legs.modify k f } : DataEntry).StandsAt g st i ↔ d.StandsAt g st i := by
  simp only [DataEntry.StandsAt, List.getElem?_modify]
  cases d.legs[i]? with
  | none => simp
  | some l => by_cases own : k = i <;> simp [own, same l]

/-- A leg timer's expiry before it is known what becomes of the leg (R115). -/
def timedOut (s : State) (g : SegId) (r : LegRef) : State :=
  let v := s.updateLeg r fun l => { l with timeouts := l.timeouts + 1 }
  (v.setSeg g { v.seg g with failures := (v.seg g).failures + 1 }).count (segCounter g .legTimeouts)

theorem timedOut_sent (g g' : SegId) (r : LegRef) : ((s.timedOut g r).seg g').sent = (s.seg g').sent := by
  let v := s.updateLeg r fun l => { l with timeouts := l.timeouts + 1 }
  have segs (g' : SegId) : v.seg g' = s.seg g' := updateLeg_seg ..
  show ((v.setSeg g { v.seg g with failures := (v.seg g).failures + 1 }).seg g').sent = _
  rw [seg_setSeg]
  split
  · rename_i own
    rw [own]
    show (v.seg g).sent = _
    rw [segs]
  · exact congrArg SegCtl.sent (segs g')

theorem legExpired_eq_timedOut (g : SegId) (x : SentLeg) :
    s.legExpired g x =
      let v := s.timedOut g x.ref
      if (v.seg g).faultThreshold ≤ (v.seg g).failures then v.fault g
      else if v.resendable x.ref && v.timeoutsOf x.ref ≤ v.retryLimit x.ref then
        v.rewind g ((v.seg g).sent.takeWhile fun y => y.tag != x.tag) ((v.seg g).sent.dropWhile fun y => y.tag != x.tag)
      else v.failTimeout g x := rfl

theorem LegsKept.empty (free : ∀ t, s.entry t = .free) (none : ∀ g, (s.seg g).queue = [] ∧ (s.seg g).sent = []) :
    LegsKept [] s := ⟨placed_nil_iff.2 (.empty free none), .empty free⟩

theorem LegsKept.applyManagementReset (s : State) : LegsKept [] s.applyManagementReset :=
  .empty (entry_applyManagementReset s) fun g => by
    rw [seg_applyManagementReset]
    exact ⟨rfl, rfl⟩

namespace LegsKept
variable (h : LegsKept [] s)
include h

/-! ## Segments -/

theorem outOfService (g : SegId) (target : SegState) (reason : FailureReason) :
    LegsKept [] (s.outOfService g target reason) := by
  rw [outOfService_eq]
  refine (LegsKept.outcomes []).moveWaits g (LegsKept.foldl_legOutcome rfl _ ?_)
  rw [List.append_nil]
  let c : SegCtl := { s.seg g with
    state := target, sent := [], queue := [], attention := []
    lastFailure := if (s.seg g).sent.map SentLeg.ref ++ (s.seg g).queue = [] then (s.seg g).lastFailure
      else reason.last 0 }
  have out : LegsKept _ (s.setSeg g c) := ⟨h.placed.emptied g rfl rfl, h.withdrawn.fewer fun _ _ e => e⟩
  exact out.same (.of_blocks rfl rfl)

theorem leaveFor (g : SegId) (target : SegState) (reason : FailureReason) : LegsKept [] (s.leaveFor g target reason) := by
  unfold State.leaveFor
  split
  · exact h.outOfService g target reason
  · exact h.same (.setSeg rfl rfl)

theorem fault (g : SegId) : LegsKept [] (s.fault g) := (h.leaveFor g _ _).same (.of_blocks rfl rfl)

/-- One leg under a tag leaves the sent list and its outcome is taken (R108, R109, R117). -/
theorem resolved {g : SegId} {x : SentLeg} (on : x ∈ (s.seg g).sent) (tags : ((s.seg g).sent.map SentLeg.tag).Nodup)
    (c : SegCtl) (queue : c.queue = (s.seg g).queue) (sent : c.sent = (s.seg g).sent.filter fun y => y.tag != x.tag)
    {v : State} (same : SameLegs (s.setSeg g c) v) {result : LegState} (settled : result.inFlight = false) :
    LegsKept [] ((v.legOutcome x.ref result).offerRise g) := by
  have out : LegsKept [x.ref] (s.setSeg g c) := ⟨h.placed.unsent on tags queue sent, h.withdrawn.fewer fun _ _ e => e⟩
  exact ((out.same same).legOutcome settled).offerRise g

theorem takeLegDone (tags : ∀ g, ((s.seg g).sent.map SentLeg.tag).Nodup) (g : SegId) (tag : LegTag) (data : List Word) :
    LegsKept [] (s.takeLegDone g tag data) := by
  unfold State.takeLegDone
  split
  · split
    · rename_i x found
      split
      · have tagged : x.tag = tag := by simpa using List.find?_some found
        subst tagged
        let c : SegCtl := { (s.seg g).unsent x.tag with failures := 0 }
        have counted : SameLegs (s.setSeg g c) ((s.setSeg g c).count (segCounter g .legsDone)) := .of_blocks rfl rfl
        exact h.resolved (List.mem_of_find?_eq_some found) (tags g) c rfl rfl counted rfl
      · exact h.same (.of_blocks rfl rfl)
    · exact h.same (.of_blocks rfl rfl)
  · exact h.same (.of_blocks rfl rfl)

theorem takeLegRefused (tags : ∀ g, ((s.seg g).sent.map SentLeg.tag).Nodup) (g : SegId) (tag : LegTag) (code : Byte) :
    LegsKept [] (s.takeLegRefused g tag code) := by
  unfold State.takeLegRefused
  split
  · split
    · rename_i x found
      have tagged : x.tag = tag := by simpa using List.find?_some found
      subst tagged
      let c : SegCtl := { (s.seg g).unsent x.tag with failures := 0, lastFailure := .deviceRefused code }
      have counted : SameLegs (s.setSeg g c) ((s.setSeg g c).count (segCounter g .deviceRefusals)) := .of_blocks rfl rfl
      exact h.resolved (List.mem_of_find?_eq_some found) (tags g) c rfl rfl counted rfl
    · exact h.same (.of_blocks rfl rfl)
  · exact h.same (.of_blocks rfl rfl)

theorem takeProbeReply (g : SegId) (tag : LegTag) : LegsKept [] (s.takeProbeReply g tag) := by
  unfold State.takeProbeReply
  split
  · split
    · exact h.same (.setSeg rfl rfl)
    · exact h.same (.of_blocks rfl rfl)
  · exact h.same (.of_blocks rfl rfl)

theorem takeAttnReport (g : SegId) (source : Byte) : LegsKept [] (s.takeAttnReport g source) := by
  unfold State.takeAttnReport
  split
  · exact h.same (.takeReport ..)
  · exact h.same (.of_blocks rfl rfl)

theorem takeUpstream (tags : ∀ g, ((s.seg g).sent.map SentLeg.tag).Nodup) (g : SegId) (words : List Word) :
    LegsKept [] (s.takeUpstream g words) := by
  unfold State.takeUpstream
  split
  · exact h.same (.of_blocks rfl rfl)
  · exact h.takeLegDone tags g _ _
  · exact h.takeLegRefused tags g _ _
  · exact h.takeProbeReply g _
  · exact h.takeAttnReport g _

theorem rewind {g : SegId} {front run : List SentLeg} (split : (s.seg g).sent = front ++ run) :
    LegsKept [] (s.rewind g front run) := by
  rw [rewind_eq]
  refine (LegsKept.foldl_legOutcome rfl _ ?_).offerRise g
  rw [List.append_nil]
  exact h.rewound split

theorem updateLeg {f : Leg → Leg} (same : ∀ l, (f l).seg = l.seg ∧ (f l).state = l.state) (r : LegRef) :
    LegsKept [] (s.updateLeg r f) := by
  unfold State.updateLeg
  split
  · rename_i d e
    refine ⟨h.placed.setEntry e (fun g st i _ => standsAt_modify same r.index) (by simp), h.withdrawn.setEntry ?_⟩
    rintro _ ⟨⟩ phase
    obtain ⟨noWait, noneQueued⟩ := h.withdrawn r.entry d e phase
    refine ⟨noWait, fun l on queued => ?_⟩
    obtain ⟨i, here⟩ := List.getElem?_of_mem on
    obtain ⟨l', here', -, queued'⟩ := (standsAt_modify same r.index).1 (⟨l, here, rfl, queued⟩ : DataEntry.StandsAt _ l.seg .queued i)
    exact noneQueued l' (List.mem_of_getElem? here') queued'
  · exact h

theorem failTimeout (tags : ∀ g, ((s.seg g).sent.map SentLeg.tag).Nodup) {g : SegId} {x y : SentLeg}
    (on : y ∈ (s.seg g).sent) (ref : y.ref = x.ref) (tag : y.tag = x.tag) : LegsKept [] (s.failTimeout g x) := by
  unfold State.failTimeout
  rw [← ref, ← tag]
  exact h.resolved on (tags g) { (s.seg g).unsent y.tag with lastFailure := .timeout } rfl rfl (.refl _) rfl

theorem timedOut (g : SegId) (r : LegRef) : LegsKept [] (s.timedOut g r) := by
  have timed := h.updateLeg (f := fun l => { l with timeouts := l.timeouts + 1 }) (fun _ => ⟨rfl, rfl⟩) r
  exact timed.same (.trans (.setSeg (c := { (s.updateLeg r _).seg g with
    failures := ((s.updateLeg r _).seg g).failures + 1 }) rfl rfl) (.of_blocks rfl rfl))

/-- A leg timer's expiry; `x` has the reference and the tag of a leg of the sent list (R115). -/
theorem legExpired (tags : ∀ g, ((s.seg g).sent.map SentLeg.tag).Nodup) {g : SegId} {x y : SentLeg}
    (on : y ∈ (s.seg g).sent) (ref : y.ref = x.ref) (tag : y.tag = x.tag) : LegsKept [] (s.legExpired g x) := by
  have kept := h.timedOut g x.ref
  rw [legExpired_eq_timedOut]
  dsimp only
  split
  · exact kept.fault g
  · split
    · exact kept.rewind List.takeWhile_append_dropWhile.symm
    · exact kept.failTimeout (fun g' => by rw [timedOut_sent]; exact tags g') (by rw [timedOut_sent]; exact on) ref tag

theorem probeExpired (g : SegId) (synced : Bool) : LegsKept [] (s.probeExpired g synced) := by
  have counted := h.same (.setSeg (g := g) (c := { s.seg g with failures := (s.seg g).failures + 1 }) rfl rfl)
  unfold State.probeExpired
  dsimp only
  split
  · exact counted.fault g
  · exact counted.same (.sendProbe ..)

end LegsKept

end State

end Sys2Proof.Machine
end

section

/-! Every step keeps the legs in their places (R44, R54, R57): the taken frames, and the step. -/

namespace Sys2Proof.Machine

namespace State
variable {s u : State}

namespace SameLegs

theorem answer (s : State) (f : RxFrame) (status : Status) (detail : Word) (data : List Word) :
    SameLegs s (s.answer f status detail data) := .of_blocks rfl rfl

theorem answerMalformed (s : State) (f : RxFrame) : SameLegs s (s.answerMalformed f) := .of_blocks rfl rfl

theorem withFreeTag (f : RxFrame) {go : State → State} (same : SameLegs s (go s)) : SameLegs s (s.withFreeTag f go) := by
  unfold State.withFreeTag
  split
  · exact .answer ..
  · exact same

theorem refuseRequest (s : State) (f : RxFrame) (status : Status) (detail : Word) :
    SameLegs s (s.refuseRequest f status detail) := by
  unfold State.refuseRequest
  dsimp only
  split <;> exact .of_blocks rfl rfl

theorem takeCwrite (s : State) (f : RxFrame) : SameLegs s (s.takeCwrite f) := by
  refine .withFreeTag f ?_
  split
  · split
    · exact .answer ..
    · exact .trans (.foldl (fun s (ox : ControlObject × Word) => .writeObject s ox.2 ox.1) _ s) (.answer ..)
  · exact .answerMalformed ..

theorem takeCread (s : State) (f : RxFrame) : SameLegs s (s.takeCread f) := by
  refine .withFreeTag f ?_
  split
  · split
    · exact .answer ..
    · exact .trans (.foldl readEffect _ s) (.answer ..)
  · exact .answerMalformed ..

theorem takeCommit (s : State) (f : RxFrame) : SameLegs s (s.takeCommit f) := by
  refine .withFreeTag f ?_
  split
  · exact .answer ..
  · split
    · exact .answer ..
    · refine .trans ?_ (.answer ..)
      unfold State.swapBanks
      dsimp only
      split <;> exact .of_blocks rfl rfl

theorem takeCopyActive (s : State) (f : RxFrame) : SameLegs s (s.takeCopyActive f) := by
  refine .withFreeTag f ?_
  split
  · exact .answer ..
  · exact .of_blocks rfl rfl

theorem takeManagementReset (s : State) (f : RxFrame) : SameLegs s (s.takeManagementReset f) :=
  .withFreeTag f (.of_blocks rfl rfl)

theorem takeRelease (s : State) (f : RxFrame) : SameLegs s (s.takeRelease f) := by
  refine .withFreeTag f ?_
  split
  · exact .answerMalformed ..
  · split
    · split
      · exact .trans (releaseLevel ..) (.answer ..)
      · exact .answer ..
    · exact .answer ..

theorem startSegment (s : State) (g : SegId) (synced : Bool) : SameLegs s (s.startSegment g synced) :=
  .trans (.setSeg (c := { s.seg g with failures := 0 }) rfl rfl) (.sendProbe ..)

end SameLegs

/-- An entry without legs opens under a free tag. -/
theorem LegsKept.opened (h : LegsKept [] s) {t : Tag} (free : s.entry t = .free) {e : Entry}
    (legless : ∀ d, e = .data d → d.phase = .pending ∧ d.legs = []) : LegsKept [] (s.setEntry t e) := by
  have noLeg {g : SegId} {st : LegState} {r : LegRef} (own : r.entry = t) : ¬ s.Stands g st r := by
    rintro ⟨d, e, -⟩
    simp [own, free] at e
  refine ⟨h.placed.congr (fun _ => rfl) (fun _ => rfl) (fun g st r _ => ?_) nofun, h.withdrawn.setEntry fun d e phase => ?_⟩
  · by_cases own : r.entry = t
    · refine iff_of_false ?_ (noLeg own)
      rintro ⟨d, e', l, here, -⟩
      rw [own, entry_setEntry_self] at e'
      simp [(legless d e').2] at here
    · exact stands_setEntry_of_ne own
  · exact absurd (legless d e).1 phase

theorem LegsKept.foldl_createLegs {out : List LegRef} {t : Tag} {d : DataEntry} (pending : d.phase = .pending) (legged : List SegId)
    (h : LegsKept out s) (e : s.entry t = .data d) : LegsKept out (legged.foldl (fun s g => s.createLegs t g) s) := by
  induction legged generalizing s d with
  | nil => exact h
  | cons g legged ih =>
    have entry : (s.createLegs t g).entry t = .data { d with legs := d.legs ++ d.parts.numbers.map (freshLeg g) } := by
      rw [createLegs_eq e, setSeg_entry, entry_setEntry_self]
      rfl
    exact ih (by exact pending) (h.createLegs e pending g) entry

namespace LegsKept
variable (h : LegsKept [] s)
include h

/-! ## READ, WRITE, FLUSH, CANCEL -/

theorem admitRequest (isWrite : Bool) (f : RxFrame) : LegsKept [] (s.admitRequest isWrite f) := by
  unfold State.admitRequest
  split
  · exact h.same (.refuseRequest ..)
  · rename_i d legged accept
    have accepted := Steps.admission_ok accept
    have entered : LegsKept [] ((s.setEntry f.tag (.data d)).countIn d.bank) :=
      (h.opened accepted.free fun _ same => by cases same; exact ⟨accepted.phase, accepted.legs⟩).same (.of_blocks rfl rfl)
    exact LegsKept.foldl_createLegs accepted.phase legged entered (entry_setEntry_self ..)

theorem takeFlush (f : RxFrame) : LegsKept [] (s.takeFlush f) := by
  unfold State.takeFlush
  split
  · exact h.same (.answer ..)
  · rename_i free
    split
    · exact h.same (.answer ..)
    · refine h.opened ?_ nofun
      cases e : s.entry f.tag <;> simp [State.tagInUse, e, Entry.isOpen] at free ⊢

theorem takeCancel (f : RxFrame) : LegsKept [] (s.takeCancel f) := by
  unfold State.takeCancel
  split
  · exact h.same (.answer ..)
  · exact ((LegsKept.outcomes []).answerEntry _ (.of_flushing ‹_›) h).same (.answer ..)
  · split
    · exact (h.cancelPending ‹_›).same (.answer ..)
    · exact h.same (.answer ..)
    · exact h.same (.answer ..)

/-! ## Segment commands -/

theorem segmentCommand (f : RxFrame) (allowed : SegState → Bool) {effect : State → State} (kept : LegsKept [] (effect s)) :
    LegsKept [] (s.segmentCommand f allowed effect) := by
  unfold State.segmentCommand State.withFreeTag
  split
  · exact h.same (.answer ..)
  · dsimp only
    split
    · exact kept.same (.answer ..)
    · exact h.same (.answer ..)

theorem takeStart (f : RxFrame) : LegsKept [] (s.takeStart f) := h.segmentCommand f _ (h.same (.startSegment ..))

theorem takeStop (f : RxFrame) : LegsKept [] (s.takeStop f) := h.segmentCommand f _ (h.leaveFor ..)

theorem takeSynced (f : RxFrame) : LegsKept [] (s.takeSynced f) := h.segmentCommand f _ (h.same (.setSeg rfl rfl))

theorem takeReset (f : RxFrame) : LegsKept [] (s.takeReset f) := h.segmentCommand f _ (h.leaveFor ..)

/-! ## Whole commands -/

theorem finish (before : State) : LegsKept [] (s.finish before) := h.same (.finish ..)

theorem live {b : Bool} (kept : LegsKept [] u) : LegsKept [] (if b then u.finish s else s) := by
  split
  · exact kept.finish s
  · exact h

theorem takeFrame (row : TakenRow) {owner : State → RxFrame → State}
    (keeps : ∀ {s : State} (f : RxFrame), LegsKept [] s → LegsKept [] (owner s f)) : LegsKept [] (s.takeFrame row owner) := by
  unfold State.takeFrame
  split
  · rename_i f rest _
    split
    · have taken : LegsKept [] (s.taken rest) := h.same (.of_blocks rfl rfl)
      exact (keeps f taken).finish s
    · exact h
  · exact h

theorem loseTrunk : LegsKept [] s.loseTrunk := by
  unfold State.loseTrunk
  dsimp only
  have down : LegsKept [] { s with tp.link := .down, tp.loss := none, tp.qualifying := none, tp.rx := [], tp.tx := [] } :=
    h.same (.of_blocks rfl rfl)
  split
  · exact .applyManagementReset _
  · exact (transitLoss_spec down).2.1.same (.of_blocks rfl rfl)

/-- The leg timer that runs out is that of a leg of the sent list, before and after the time it takes (R115). -/
theorem runOutLeg (tags : ∀ g, ((s.seg g).sent.map SentLeg.tag).Nodup) {g : SegId} {x : SentLeg} (on : x ∈ (s.seg g).sent)
    {n : Nat} (ran : s.runOut? n = some u) : LegsKept [] (u.legExpired g x) := by
  rcases runOut?_cases ran with rfl | rfl
  · exact h.legExpired tags on rfl rfl
  · have sent : ((s.elapse n).seg g).sent = (s.seg g).sent.map fun y => { y with timer := y.timer - n } := by
      rw [seg_elapse]
      rfl
    have stays : { x with timer := x.timer - n } ∈ ((s.elapse n).seg g).sent := by
      rw [sent]
      exact List.mem_map_of_mem (f := fun y : SentLeg => { y with timer := y.timer - n }) on
    refine (h.same (.elapse s n)).legExpired (fun g => ?_) stays rfl rfl
    rw [seg_elapse, SegCtl.elapse, List.map_map]
    exact tags g

theorem exec (slots : ∀ g, SlotsKept (s.seg g)) {c : Instr} {t : State} (e : exec c s = .next t) : LegsKept [] t := by
  have tags : ∀ g, ((s.seg g).sent.map SentLeg.tag).Nodup := fun g => (slots g).tags
  cases c with
  | pornAsserted =>
    cases e
    have silent (g : SegId) : (State.reset.seg g).queue = [] ∧ (State.reset.seg g).sent = [] := by
      rw [seg_reset]
      exact ⟨rfl, rfl⟩
    exact .empty entry_reset silent
  | pornReleased =>
    cases e
    split
    · exact h.same (.of_blocks rfl rfl)
    · exact h
  | refclkLost => cases e; exact h.same (.of_blocks rfl rfl)
  | refclkRestored => cases e; exact h.same (.of_blocks rfl rfl)
  | receiverLockAcquired =>
    cases e
    split
    · exact h
    · exact h.same (.of_blocks rfl rfl)
  | receiverLockLost what => cases e; exact h.same (.of_blocks rfl rfl)
  | linkQualified =>
    cases e
    split
    · split
      · rename_i u ran
        have up : LegsKept [] { u with tp.link := .up, tp.qualifying := none } := (h.same (.runOut ran)).same (.of_blocks rfl rfl)
        exact up.finish u
      · exact h
    · exact h
  | trunkLoss =>
    cases e
    split
    · split
      · rename_i ran
        exact (h.same (.runOut ran)).loseTrunk.finish _
      · exact h
    · exact h
  | frameReceived words => cases e; exact h.live (h.same (.receive ..))
  | malformedFrame => cases e; exact h.takeFrame _ fun f h => h.same (.answerMalformed ..)
  | read => cases e; exact h.takeFrame _ fun f h => h.admitRequest false f
  | write => cases e; exact h.takeFrame _ fun f h => h.admitRequest true f
  | flush => cases e; exact h.takeFrame _ fun f h => h.takeFlush f
  | cancel => cases e; exact h.takeFrame _ fun f h => h.takeCancel f
  | shadowWindowWrite | segmentConfigWrite | maskSetWrite | resendIntervalWrite | cwrite =>
    cases e; exact h.takeFrame _ fun f h => h.same (.takeCwrite ..)
  | counterReadAndClear => cases e; exact h.takeFrame _ fun f h => h.same (.takeCread ..)
  | commit => cases e; exact h.takeFrame _ fun f h => h.same (.takeCommit ..)
  | copyActive => cases e; exact h.takeFrame _ fun f h => h.same (.takeCopyActive ..)
  | segmentStart => cases e; exact h.takeFrame _ fun f h => h.takeStart f
  | segmentStop => cases e; exact h.takeFrame _ fun f h => h.takeStop f
  | segmentSynced => cases e; exact h.takeFrame _ fun f h => h.takeSynced f
  | segmentReset => cases e; exact h.takeFrame _ fun f h => h.takeReset f
  | managementReset => cases e; exact h.takeFrame _ fun f h => h.same (.takeManagementReset ..)
  | unknownCommandCode => cases e; exact h.takeFrame _ fun f h => h.same (.withFreeTag f (.answerMalformed ..))
  | release => cases e; exact h.takeFrame _ fun f h => h.same (.takeRelease ..)
  | frameSent =>
    cases e
    split
    · split
      · refine LegsKept.finish ?_ _
        split
        · exact .applyManagementReset _
        · exact h.same (.of_blocks rfl rfl)
      · exact h
    · exact h
  | managementResetTakesEffect =>
    cases e
    split
    · split
      · exact (LegsKept.applyManagementReset _).finish _
      · exact (LegsKept.applyManagementReset _).finish _
      · exact h
    · exact h
  | sendLeg g =>
    cases e
    split
    · split
      · exact (h.sendHead ‹_›).finish _
      · exact h
    · exact h
  | failoverWaitServed g => cases e; exact h.live (h.offerRise g)
  | legDone g tag data => cases e; exact h.live (h.takeLegDone tags g tag data)
  | legRefused g tag code => cases e; exact h.live (h.takeLegRefused tags g tag code)
  | probeReply g tag => cases e; exact h.live (h.takeProbeReply g tag)
  | attnReport g source => cases e; exact h.live (h.takeAttnReport g source)
  | corruptFrame g words => cases e; exact h.live (h.takeUpstream tags g words)
  | legTimerExpiry g tag =>
    cases e
    split
    · split
      · rename_i x _ found _ u ran
        exact (h.runOutLeg tags (List.mem_of_find?_eq_some found) ran).finish _
      · exact h
    · exact h
  | probeTimeout g =>
    cases e
    split
    · split
      · rename_i ran
        exact ((h.same (.runOut ran)).probeExpired g _).finish _
      · exact h
    · exact h
  | lineResetExpiry g =>
    cases e
    split
    · split
      · rename_i u ran
        exact ((h.same (.runOut ran)).same (.setSeg (c := { u.seg g with state := .offline }) rfl rfl)).finish u
      · exact h
    · exact h
  | attentionDelivery => cases e; exact h.live h
  | resendDeadlineExpiry l =>
    cases e
    split
    · split
      · rename_i ran
        have elapsed := h.same (.runOut ran)
        split
        · exact (elapsed.same (.resendExpired ..)).finish _
        · exact elapsed
      · exact h
    · exact h
  | deferredResend => cases e; exact h.live h

theorem tick : LegsKept [] s.tick := by
  unfold State.tick
  split
  · exact h.same (.elapse ..)
  · exact h

end LegsKept

end State

/-- Settles O60: every change of a step is one of those that leave each leg in its place. -/
theorem stepKeepsLegs : Obligations.StepKeepsLegs := by
  intro s t placed withdrawn slots stepped
  have kept : State.LegsKept [] s := ⟨State.placed_nil_iff.2 placed, withdrawn⟩
  have after : State.LegsKept [] t := by
    unfold step at stepped
    split at stepped
    · rename_i c rest _
      exact State.LegsKept.exec (s := { s with pending := rest }) (kept.same (.of_blocks rfl rfl)) slots stepped
    · cases stepped
      exact kept.tick
  exact ⟨State.placed_nil_iff.1 after.placed, after.withdrawn⟩

end Sys2Proof.Machine
end

section

/-! The control-space map (R163, R179, R194, R195): the address of every object, and what the packed words show. -/

namespace Sys2Proof.Machine

/-! ## Words packed from fields -/

/-- A field above a word that ends below it adds to it. -/
theorem toWord_or_shiftLeft {a k : Nat} (below : a < 2 ^ k) (b : Nat) : toWord a ||| (toWord b <<< k) = toWord (a + 2 ^ k * b) := by
  refine BitVec.eq_of_getLsbD_eq fun i bound => ?_
  rw [Nat.add_comm, Nat.two_pow_add_eq_or_of_lt below]
  simp only [toWord, BitVec.getLsbD_or, BitVec.getLsbD_shiftLeft, BitVec.getLsbD_ofNat, Nat.testBit_or, Nat.testBit_two_pow_mul,
    bound, decide_true, Bool.true_and]
  by_cases high : k ≤ i
  · simp [high, Nat.not_lt.2 high, show i - k < 32 by omega, Bool.or_comm]
  · simp [high, Nat.lt_of_not_le high]

theorem setWidth_eq_toWord {n : Nat} (x : BitVec n) : x.setWidth 32 = toWord x.toNat := by
  rw [toWord, BitVec.ofNat_toNat]

/-- The bits of a word built up from flags. -/
theorem foldl_flags_getLsbD (p : Nat → Bool) {n i : Nat} (few : n ≤ 32) (bound : i < 32) :
    ((List.range n).foldl (fun acc j => if p j then acc ||| (1#32 <<< j) else acc) 0#32).getLsbD i = (decide (i < n) && p i) := by
  induction n with
  | zero => simp
  | succ n ih =>
    rw [List.range_succ, List.foldl_concat]
    split
    · rename_i set
      rw [BitVec.getLsbD_or, ih (by omega)]
      by_cases own : i = n
      · subst own
        simp [set, bound]
      · have bit : ((1#32 <<< n).getLsbD i) = false := by
          rw [BitVec.getLsbD_shiftLeft, BitVec.getLsbD_one]
          simp
          omega
        simp [bit, show i < n + 1 ↔ i < n by omega]
    · rename_i clear
      rw [ih (by omega)]
      by_cases own : i = n
      · subst own
        simp [clear]
      · simp [show i < n + 1 ↔ i < n by omega]

/-! ## The address of every object -/

/-- The address of an object (R179). -/
def ControlObject.address : ControlObject → Nat
  | .shadowWord w j => 4 * w.val + j.val
  | .activeWord w j => 0x080 + 4 * w.val + j.val
  | .activeBank => 0x200
  | .generation => 0x201
  | .shadowState => 0x202
  | .inflight .a => 0x203
  | .inflight .b => 0x204
  | .sendWindow g => 0x300 + 0x20 * g.val
  | .legTimeout g => 0x300 + 0x20 * g.val + 0x01
  | .faultThreshold g => 0x300 + 0x20 * g.val + 0x02
  | .segmentState g => 0x300 + 0x20 * g.val + 0x08
  | .queuedLegs g => 0x300 + 0x20 * g.val + 0x09
  | .sentLegs g => 0x300 + 0x20 * g.val + 0x0A
  | .failures g => 0x300 + 0x20 * g.val + 0x0B
  | .lastFailure g => 0x300 + 0x20 * g.val + 0x0C
  | .attentionSlot g i => 0x300 + 0x20 * g.val + 0x10 + i.val
  | .attentionLength g => 0x300 + 0x20 * g.val + 0x14
  | .maskSet => 0x400
  | .requestedSet => 0x401
  | .inServiceSet => 0x402
  | .nextSequence => 0x403
  | .resendInterval => 0x404
  | .levelDetail l => 0x408 + l.val
  | .levelSequence l => 0x410 + l.val
  | .counter i => 0x500 + i.val
  | .counterClear i => 0x600 + i.val
  | .saturatedLow => 0x640
  | .saturatedHigh => 0x641
  | .vendorCode => 0x700
  | .partCode => 0x701
  | .revision => 0x702
  | .capacity => 0x703
  | .transit t j => 0x800 + 4 * t.val + j.val

theorem address_of_segmentObject? {g : SegId} {n : Nat} {o : ControlObject} (mapped : segmentObject? g n = some o) :
    o.address = 0x300 + 0x20 * g.val + n := by
  unfold segmentObject? at mapped
  split at mapped <;> cases mapped <;> rfl

theorem controlObject?_address (o : ControlObject) : controlObject? o.address = some o := by
  cases o with
  | shadowWord w j => revert w j; decide
  | activeWord w j => revert w j; decide
  | inflight which => cases which <;> rfl
  | attentionSlot g i => revert g i; decide
  | levelDetail l | levelSequence l => revert l; decide
  | counter i | counterClear i => revert i; decide
  | transit t j => revert t j; decide
  | sendWindow g | legTimeout g | faultThreshold g | segmentState g | queuedLegs g | sentLegs g | failures g | lastFailure g
  | attentionLength g => revert g; decide
  | _ => rfl
theorem dite_some_elim {α : Type} {c : Prop} [Decidable c] {x : c → Option α} {y : ¬ c → Option α} {o : α} {P : Prop}
    (neg : ∀ h, y h = some o → P) (pos : ∀ h, x h = some o → P) : (if h : c then x h else y h) = some o → P := by
  split
  · exact pos _
  · exact neg _

theorem ite_some_elim {α : Type} {c : Prop} [Decidable c] {x y : Option α} {o : α} {P : Prop}
    (neg : ¬ c → y = some o → P) (pos : c → x = some o → P) : (if c then x else y) = some o → P :=
  dite_some_elim neg pos

theorem address_of_controlObject? {a : Nat} {o : ControlObject} : controlObject? a = some o → o.address = a := by
  unfold controlObject?
  repeat
    first
    | refine dite_some_elim (fun h => ?_) fun h mapped => ?_
    | refine ite_some_elim (fun h => ?_) fun h mapped => ?_
  · nofun
  any_goals exact (address_of_segmentObject? mapped).trans (by simp only; omega)
  all_goals
    cases mapped
    simp only [ControlObject.address]
    omega

theorem controlObject?_eq_some_iff {a : Nat} {o : ControlObject} : controlObject? a = some o ↔ o.address = a :=
  ⟨address_of_controlObject?, fun own => own ▸ controlObject?_address o⟩

theorem ControlObject.address_inj {o p : ControlObject} (same : o.address = p.address) : o = p :=
  Option.some.inj ((controlObject?_address o).symm.trans (same ▸ controlObject?_address p))

theorem dite_none_elim {α : Type} {c : Prop} [Decidable c] {x : c → Option α} {y : ¬ c → Option α} {P : Prop}
    (neg : ∀ h, y h = none ↔ P) (pos : ∀ h, x h = none ↔ P) : (if h : c then x h else y h) = none ↔ P := by
  split
  · exact pos _
  · exact neg _

theorem ite_none_elim {α : Type} {c : Prop} [Decidable c] {x y : Option α} {P : Prop}
    (neg : ¬ c → (y = none ↔ P)) (pos : c → (x = none ↔ P)) : (if c then x else y) = none ↔ P :=
  dite_none_elim neg pos

theorem segmentObject?_eq_none_iff {g : SegId} {n : Nat} :
    segmentObject? g n = none ↔ 3 ≤ n ∧ n < 8 ∨ 0x0D ≤ n ∧ n < 0x10 ∨ 0x15 ≤ n := by
  unfold segmentObject?
  split
  case h_14 =>
    refine iff_of_true rfl ?_
    simp only [imp_false] at *
    omega
  all_goals exact iff_of_false nofun (by omega)

/-- The unmapped addresses (R179). -/
theorem controlObject?_eq_none_iff (a : Nat) : controlObject? a = none ↔
    (0x100 ≤ a ∧ a < 0x200) ∨ (0x205 ≤ a ∧ a < 0x300) ∨
    (0x300 ≤ a ∧ a < 0x380 ∧ (3 ≤ a % 0x20 ∧ a % 0x20 < 8 ∨ 0x0D ≤ a % 0x20 ∧ a % 0x20 < 0x10 ∨ 0x15 ≤ a % 0x20)) ∨
    (0x380 ≤ a ∧ a < 0x400) ∨ (0x405 ≤ a ∧ a < 0x408) ∨ (0x418 ≤ a ∧ a < 0x500) ∨ (0x531 ≤ a ∧ a < 0x600) ∨
    (0x631 ≤ a ∧ a < 0x640) ∨ (0x642 ≤ a ∧ a < 0x700) ∨ (0x704 ≤ a ∧ a < 0x800) ∨ 0x880 ≤ a := by
  unfold controlObject?
  repeat
    first
    | refine dite_none_elim (fun h => ?_) fun h => ?_
    | refine ite_none_elim (fun h => ?_) fun h => ?_
  · exact iff_of_true rfl (by omega)
  any_goals exact segmentObject?_eq_none_iff.trans (by omega)
  all_goals exact iff_of_false nofun (by omega)

/-! ## What the packed words show -/

namespace State
variable (s : State)

theorem shows {a : Nat} {x : Word} (o : ControlObject) (own : o.address = a) (word : s.readObject o = x) :
    (controlObject? a).map s.readObject = some x := by
  rw [controlObject?_eq_some_iff.2 own, ← word]
  rfl

theorem saturatedWord_getLsbD (base : Nat) {i : Nat} (bound : i < 32) :
    (s.saturatedWord base).getLsbD i = (s.cb.saturated[base + i]?).getD false := by
  rw [saturatedWord, foldl_flags_getLsbD _ (Nat.le_refl _) bound]
  simp [bound]

theorem shadowState_shows : s.readObject .shadowState = if 0 < s.wb.inflight s.wb.active.other then 1 else 0 := by
  by_cases draining : 0 < s.wb.inflight s.wb.active.other <;>
    simp [readObject, WindowBanks.draining, WindowBanks.shadow, flagWord, draining]

theorem lastFailure_word (last : LastFailure) : last.word = match last with
    | .none => 0
    | .timeout => 1
    | .deviceRefused code => toWord (2 + 256 * code.toNat)
    | .segmentFaulted => 3
    | .segmentStopped => 4 := by
  cases last with
  | deviceRefused code => rw [LastFailure.word, setWidth_eq_toWord]; exact toWord_or_shiftLeft (a := 2) (k := 8) (by decide) _
  | _ => rfl

end State

/-- A set of levels is a word of eight bits. -/
theorem levelsWhere_byte (p : LevelId → Bool) :
    ∃ set : BitVec 8, levelsWhere p = set.setWidth 32 ∧ ∀ l : LevelId, set.getLsbD l.val = p l := by
  refine ⟨(levelsWhere p).setWidth 8, BitVec.eq_of_toNat_eq ?_, fun l => ?_⟩
  · have small := levelsWhere_lt p
    simp only [BitVec.toNat_setWidth]
    omega
  · rw [BitVec.getLsbD_setWidth, levelsWhere_getLsbD]
    simp

theorem DataEntry.legSummary_eq {d : DataEntry} (few : d.legs.length ≤ 8) : d.legSummary = toWord
    (d.legs.countP (fun l => l.state == .queued) + 16 * d.legs.countP (fun l => l.state == .sent)
      + 256 * d.legs.countP (fun l => l.state.isDone) + 4096 * d.legs.countP (fun l => l.state.reason?.isSome)
      + 65536 * d.legs.countP (fun l => l.state == .withdrawn)) := by
  have counts (p : Leg → Bool) : d.legs.countP p ≤ 8 := Nat.le_trans List.countP_le_length few
  have queued := counts fun l => l.state == .queued
  have sent := counts fun l => l.state == .sent
  have done := counts fun l => l.state.isDone
  have failed := counts fun l => l.state.reason?.isSome
  unfold legSummary
  dsimp only
  rw [toWord_or_shiftLeft (by omega), toWord_or_shiftLeft (by omega), toWord_or_shiftLeft (by omega), toWord_or_shiftLeft (by omega)]
  simp only [Nat.reducePow]

/-- Settles O47: each address is that of one object, and the object shows its word. -/
theorem controlMap : Obligations.ControlMap := by
  refine ⟨fun s => ?_, controlObject?_eq_none_iff⟩
  refine ⟨fun w j => ⟨s.shows (.shadowWord w j) rfl rfl, s.shows (.activeWord w j) rfl rfl⟩,
    s.shows .activeBank rfl ?_, s.shows .generation rfl rfl, s.shows .shadowState rfl s.shadowState_shows,
    s.shows (.inflight .a) rfl rfl, s.shows (.inflight .b) rfl rfl, fun g => ?_, ?_, s.shows .nextSequence rfl rfl,
    s.shows .resendInterval rfl rfl, fun l => ⟨s.shows (.levelDetail l) rfl rfl, s.shows (.levelSequence l) rfl rfl⟩,
    fun i => ⟨s.shows (.counter i) rfl rfl, s.shows (.counterClear i) rfl rfl⟩, ?_, s.shows .vendorCode rfl rfl,
    s.shows .partCode rfl rfl, s.shows .revision rfl rfl, s.shows .capacity rfl rfl, fun t => ?_⟩
  · simp only [State.readObject]
    cases s.wb.active <;> rfl
  · refine ⟨s.shows (.sendWindow g) rfl rfl, s.shows (.legTimeout g) rfl rfl, s.shows (.faultThreshold g) rfl rfl,
      s.shows (.segmentState g) rfl ?_, s.shows (.queuedLegs g) rfl rfl, s.shows (.sentLegs g) rfl rfl,
      s.shows (.failures g) rfl rfl, s.shows (.lastFailure g) rfl (State.lastFailure_word _),
      fun i => s.shows (.attentionSlot g i) rfl rfl, s.shows (.attentionLength g) rfl rfl⟩
    simp only [State.readObject]
    cases (s.seg g).state <;> rfl
  · obtain ⟨masks, masked, maskBits⟩ := levelsWhere_byte fun l => (s.level l).masked
    obtain ⟨requested, latched, requestedBits⟩ := levelsWhere_byte s.requested
    obtain ⟨service, served, serviceBits⟩ := levelsWhere_byte s.inService
    exact ⟨masks, requested, service, s.shows .maskSet rfl masked, s.shows .requestedSet rfl latched,
      s.shows .inServiceSet rfl served, fun l => ⟨maskBits l, requestedBits l, serviceBits l⟩⟩
  · refine ⟨_, _, s.shows .saturatedLow rfl rfl, s.shows .saturatedHigh rfl rfl, fun i => ?_⟩
    simp only [State.readObject]
    split
    · rename_i low
      rw [s.saturatedWord_getLsbD 0 low]
      simp
    · rename_i high
      rw [s.saturatedWord_getLsbD 32 (by omega), Nat.add_sub_cancel' (Nat.le_of_not_lt high)]
      simp
  · refine ⟨_, _, _, _, s.shows (.transit t 0) rfl rfl, s.shows (.transit t 1) ?_ rfl, s.shows (.transit t 2) ?_ rfl,
      s.shows (.transit t 3) ?_ rfl, ?_⟩
    · show 0x800 + 4 * t.val + 1 = _
      omega
    · show 0x800 + 4 * t.val + 2 = _
      omega
    · show 0x800 + 4 * t.val + 3 = _
      omega
    · simp only [State.readObject]
      cases s.entry t with
      | free => exact ⟨rfl, rfl, rfl, rfl⟩
      | flushing b n => exact ⟨rfl, rfl, rfl, rfl⟩
      | data d =>
        refine ⟨rfl, ?_, ?_, fun few => DataEntry.legSummary_eq few⟩
        · obtain ⟨phase, bank, window, parts, request, legs, noneLeft⟩ := d
          cases request <;> rfl
        · have fits : d.window.val < 2 ^ 8 := Nat.lt_trans d.window.isLt (by decide)
          show (d.bank.code <<< 8) ||| toWord d.window.val = _
          rw [BitVec.or_comm]
          cases d.bank with
          | a => exact (toWord_or_shiftLeft fits 0).trans (congrArg toWord (Nat.add_comm ..))
          | b => exact (toWord_or_shiftLeft fits 1).trans (congrArg toWord (Nat.add_comm ..))

end Sys2Proof.Machine
end

section

/-! CREAD and CWRITE over their spans: the tests in order, and what is read, cleared and written (R182 to R186, R201). -/

namespace Sys2Proof.Machine

/-! ## Spans -/

theorem RxFrame.mem_span {f : RxFrame} {a : Nat} : a ∈ f.span ↔ f.address.toNat ≤ a ∧ a < f.address.toNat + f.count := by
  simp only [span, List.mem_map, List.mem_range]
  constructor
  · rintro ⟨i, bound, rfl⟩
    omega
  · rintro ⟨low, high⟩
    exact ⟨a - f.address.toNat, by omega, by omega⟩

theorem RxFrame.span_rising (f : RxFrame) : f.span.Pairwise (· < ·) := by
  rw [span, List.pairwise_map]
  exact List.pairwise_lt_range.imp fun less => Nat.add_lt_add_left less _

theorem RxFrame.length_span (f : RxFrame) : f.span.length = f.count := by simp [span]

section
variable {f : RxFrame} {p : Nat → Prop} {q : Nat → Bool} (agree : ∀ a, q a = true ↔ p a)
include agree

theorem find?_span_of_lowest {a : Nat} (lowest : Lowest f.span p a) : f.span.find? q = some a := by
  obtain ⟨on, passes, least⟩ := lowest
  refine find?_lowest f.span_rising on ((agree a).2 passes) fun b onB below => ?_
  exact Bool.eq_false_iff.2 fun passesB => least b onB below ((agree b).1 passesB)

theorem find?_span_of_clear (clear : ∀ a ∈ f.span, ¬ p a) : f.span.find? q = none :=
  List.find?_eq_none.2 fun a on passes => clear a on ((agree a).1 passes)

end

theorem isNone_controlObject?_iff (a : Nat) : (controlObject? a).isNone = true ↔ controlObject? a = none :=
  Option.isNone_iff_eq_none

/-- The objects of a mapped span are those of its addresses, in order. -/
theorem getElem?_spanObjects {span : List Nat} (mapped : ∀ a ∈ span, controlObject? a ≠ none) (i : Nat) :
    (spanObjects span)[i]? = span[i]?.bind controlObject? := by
  induction span generalizing i with
  | nil => rfl
  | cons a span ih =>
    obtain ⟨o, named⟩ := Option.ne_none_iff_exists'.1 (mapped a (by simp))
    have rest := ih fun b on => mapped b (List.mem_cons_of_mem _ on)
    have objects : spanObjects (a :: span) = o :: spanObjects span := by rw [spanObjects, List.filterMap_cons, named]; rfl
    rw [objects]
    cases i with
    | zero => simp [named]
    | succ i => exact rest i

theorem mem_spanObjects {span : List Nat} {o : ControlObject} : o ∈ spanObjects span ↔ o.address ∈ span := by
  simp only [spanObjects, List.mem_filterMap, controlObject?_eq_some_iff, exists_eq_right']

theorem spanObjects_nodup (f : RxFrame) : (spanObjects f.span).Nodup := by
  rw [spanObjects, List.nodup_iff_pairwise_ne]
  refine List.Pairwise.filterMap _ (fun a b less o named o' named' same => ?_) f.span_rising
  subst same
  have := address_of_controlObject? named
  have := address_of_controlObject? named'
  omega

/-! ## CREAD -/

theorem RxFrame.creadWellFormed_iff (f : RxFrame) : f.creadWellFormed = true ↔ 1 ≤ f.count ∧ f.count ≤ 16 ∧ f.data = [] := by
  show (decide (1 ≤ f.count) && decide (f.count ≤ 16) && f.data.isEmpty) = true ↔ _
  simp only [Bool.and_eq_true, decide_eq_true_eq, List.isEmpty_iff, and_assoc]

namespace State
variable {s : State} {f : RxFrame}

theorem takeCread_malformed (free : s.tagInUse f.tag = false) (malformed : ¬ f.creadWellFormed = true) :
    s.takeCread f = (s.placeResponse (f.reply .malformed 0)).count (partCounter .framesMalformed) := by
  rw [takeCread, withFreeTag_free free, if_neg malformed]
  rfl

theorem takeCread_unmapped (free : s.tagInUse f.tag = false) (formed : f.creadWellFormed = true) {a : Nat}
    (first : firstUnmapped? f.span = some a) : s.takeCread f = s.placeResponse (f.reply .noObject (toWord a)) := by
  rw [takeCread, withFreeTag_free free, if_pos formed, first]
  rfl

theorem takeCread_ok (free : s.tagInUse f.tag = false) (formed : f.creadWellFormed = true)
    (mapped : firstUnmapped? f.span = none) :
    s.takeCread f = ((spanObjects f.span).foldl readEffect s).placeResponse
      (f.reply .ok 0 ((spanObjects f.span).map s.readObject)) := by
  rw [takeCread, withFreeTag_free free, if_pos formed, mapped]
  rfl

/-- Reading touches the counters and their flags only. -/
theorem foldl_readEffect_eq (os : List ControlObject) (s : State) :
    os.foldl readEffect s = { s with
      cb.counters := (os.foldl readEffect s).cb.counters, cb.saturated := (os.foldl readEffect s).cb.saturated } := by
  induction os generalizing s with
  | nil => rfl
  | cons o os ih =>
    rw [List.foldl_cons, ih]
    cases o <;> rfl

theorem readEffect_counter (s : State) (o : ControlObject) (i : Fin 49) :
    (s.readEffect o).counter i = (if o = .counterClear i then 0 else s.counter i) ∧
      (s.readEffect o).cb.saturated[i] = (if o = .counterClear i then false else s.cb.saturated[i]) := by
  cases o with
  | counterClear j =>
    by_cases own : j = i
    · simp [own, readEffect, counter]
    · have apart : j.val ≠ i.val := fun same => own (Fin.ext same)
      simp [own, apart, readEffect, counter]
  | _ => exact ⟨rfl, rfl⟩

/-- A read-and-clear word in the list clears its counter and its flag (R201). -/
theorem foldl_readEffect_counter (os : List ControlObject) (s : State) (i : Fin 49) :
    (os.foldl readEffect s).counter i = (if .counterClear i ∈ os then 0 else s.counter i) ∧
      (os.foldl readEffect s).cb.saturated[i] = (if .counterClear i ∈ os then false else s.cb.saturated[i]) := by
  induction os generalizing s with
  | nil => simp
  | cons o os ih =>
    obtain ⟨counter, flag⟩ := s.readEffect_counter o i
    rw [List.foldl_cons, (ih _).1, (ih _).2, counter, flag]
    by_cases later : .counterClear i ∈ os <;> by_cases here : o = .counterClear i <;> simp [later, here, eq_comm]

end State

/-- Settles O46: the three answers of CREAD, and the counters its read-and-clear words clear. -/
theorem creadAnswers : Obligations.CreadAnswers := by
  intro s f rest takes free k formed unmapped
  have tagFree : k.tagInUse f.tag = false := tagInUse_false free
  have taken : exec .counterReadAndClear s = .next ((k.takeCread f).finish s) := takes.exec_eq rfl
  refine ⟨fun malformed => ?_, fun a wellFormed lowest => ?_, fun wellFormed clear => ?_⟩
  · rw [taken, State.takeCread_malformed tagFree fun wellFormed => malformed (f.creadWellFormed_iff.1 wellFormed)]
  · rw [taken, State.takeCread_unmapped tagFree (f.creadWellFormed_iff.2 wellFormed)
      (find?_span_of_lowest isNone_controlObject?_iff lowest)]
  · refine ⟨(spanObjects f.span).foldl State.readEffect k, ?_, State.foldl_readEffect_eq .., fun i => ?_⟩
    · rw [taken, State.takeCread_ok tagFree (f.creadWellFormed_iff.2 wellFormed)
        (find?_span_of_clear isNone_controlObject?_iff clear), spanObjects, List.map_filterMap]
    · obtain ⟨counter, flag⟩ := State.foldl_readEffect_counter (spanObjects f.span) k i
      rw [counter, flag]
      simp only [mem_spanObjects, ControlObject.address]
      split
      · exact ⟨rfl, rfl⟩
      · exact ⟨rfl, rfl⟩

end Sys2Proof.Machine
end

section

/-! CWRITE: the tests in order (R182, R183, R185) and the row of an accepted one. -/

namespace Sys2Proof.Machine

theorem RxFrame.cwriteWellFormed_iff (f : RxFrame) :
    f.cwriteWellFormed = true ↔ 1 ≤ f.count ∧ f.count ≤ 16 ∧ f.data.length = f.count := by
  show (decide (1 ≤ f.count) && decide (f.count ≤ 16) && f.data.length == f.count) = true ↔ _
  simp only [Bool.and_eq_true, decide_eq_true_eq, beq_iff_eq, and_assoc]

/-! ## The tests of R185 -/

theorem firstWhere_test_iff {test : ControlObject → Bool} {p : Nat → Prop}
    (agree : ∀ a, p a ↔ ∃ o, controlObject? a = some o ∧ test o = true) (a : Nat) :
    (match controlObject? a with
      | some o => test o
      | none => false) = true ↔ p a := by
  rw [agree]
  cases controlObject? a <;> simp

theorem firstWhere?_of_lowest {f : RxFrame} {test : ControlObject → Bool} {p : Nat → Prop}
    (agree : ∀ a, p a ↔ ∃ o, controlObject? a = some o ∧ test o = true) {a : Nat} (lowest : Lowest f.span p a) :
    firstWhere? f.span test = some a := find?_span_of_lowest (firstWhere_test_iff agree) lowest

theorem firstWhere?_of_clear {f : RxFrame} {test : ControlObject → Bool} {p : Nat → Prop}
    (agree : ∀ a, p a ↔ ∃ o, controlObject? a = some o ∧ test o = true) (clear : ∀ a ∈ f.span, ¬ p a) :
    firstWhere? f.span test = none := find?_span_of_clear (firstWhere_test_iff agree) clear

/-- The words of shadow records are those below 0x80 (R179). -/
theorem address_lt_iff_shadowWord (o : ControlObject) : o.address < 0x80 ↔ ∃ w j, o = .shadowWord w j := by
  cases o with
  | shadowWord w j => exact iff_of_true (by simp only [ControlObject.address]; omega) ⟨w, j, rfl⟩
  | inflight which => exact iff_of_false (by cases which <;> simp [ControlObject.address]) nofun
  | _ => exact iff_of_false (by simp only [ControlObject.address]; omega) nofun

theorem mapped_of_lt {a : Nat} (low : a < 0x80) : ∃ o, controlObject? a = some o := by
  refine Option.ne_none_iff_exists'.1 fun none => ?_
  have := (controlObject?_eq_none_iff a).1 none
  omega

theorem RxFrame.getElem?_span {f : RxFrame} {i a : Nat} : f.span[i]? = some a ↔ a = f.address.toNat + i ∧ i < f.count := by
  rw [List.getElem?_eq_some_iff]
  simp only [span, List.length_map, List.length_range, List.getElem_map, List.getElem_range]
  exact ⟨fun ⟨bound, own⟩ => ⟨own.symm, bound⟩, fun ⟨own, bound⟩ => ⟨bound, own.symm⟩⟩

/-- The words of the data stand at the addresses, in order. -/
theorem mem_span_zip {f : RxFrame} {a : Nat} {x : Word} :
    (a, x) ∈ f.span.zip f.data ↔ a ∈ f.span ∧ f.data[a - f.address.toNat]? = some x := by
  simp only [List.mem_iff_getElem?, List.getElem?_zip_eq_some, RxFrame.getElem?_span]
  constructor
  · rintro ⟨i, ⟨rfl, bound⟩, word⟩
    exact ⟨⟨i, rfl, bound⟩, by rwa [Nat.add_sub_cancel_left]⟩
  · rintro ⟨⟨i, rfl, bound⟩, word⟩
    rw [Nat.add_sub_cancel_left] at word
    exact ⟨i, ⟨rfl, bound⟩, word⟩

theorem span_zip_rising {f : RxFrame} (enough : f.data.length = f.count) :
    (f.span.zip f.data).Pairwise fun ax by_ => ax.1 < by_.1 := by
  refine (List.pairwise_map (f := Prod.fst)).1 ?_
  rw [List.map_fst_zip (by rw [f.length_span, enough])]
  exact f.span_rising

namespace State
variable {s : State} {f : RxFrame}

/-- R185's third test: a word of the shadow while it drains. -/
def shadowBusy (s : State) : ControlObject → Bool
  | .shadowWord _ _ => s.wb.draining
  | _ => false

/-- R185's fourth test: a configuration word of a segment in operation. -/
def configBusy (s : State) (o : ControlObject) : Bool :=
  match o.configOf? with
  | some g => !(s.seg g).state.idle
  | none => false

/-- R185's last test: a word outside its object's range. -/
def outsideRange (ax : Nat × Word) : Bool :=
  match controlObject? ax.1 with
  | some o => !o.inRange ax.2
  | none => false

theorem cwriteRefusal?_eq (s : State) (f : RxFrame) : s.cwriteRefusal? f =
    match firstUnmapped? f.span with
    | some a => some (.noObject, a)
    | none => match firstWhere? f.span (fun o => !o.writable) with
      | some a => some (.access, a)
      | none => match firstWhere? f.span s.shadowBusy with
        | some a => some (.bankBusy, a)
        | none => match firstWhere? f.span s.configBusy with
          | some a => some (.refused, a)
          | none => match (f.span.zip f.data).find? outsideRange with
            | some (a, _) => some (.refused, a)
            | none => none := rfl

theorem outsideRange_iff {a : Nat} {x : Word} :
    outsideRange (a, x) = true ↔ ∃ o, controlObject? a = some o ∧ o.inRange x = false := by
  unfold outsideRange
  cases controlObject? a <;> simp

theorem firstOutside_of_lowest (enough : f.data.length = f.count) {a : Nat} (lowest : Lowest f.span (fun a => ∃ o x,
      controlObject? a = some o ∧ f.data[a - f.address.toNat]? = some x ∧ o.inRange x = false) a) :
    ∃ x, (f.span.zip f.data).find? outsideRange = some (a, x) := by
  obtain ⟨on, ⟨o, x, named, word, outside⟩, least⟩ := lowest
  refine ⟨x, @find?_lowest _ ⟨fun p q => p.1 < q.1⟩ _ (span_zip_rising enough) _ (mem_span_zip.2 ⟨on, word⟩) _
    (outsideRange_iff.2 ⟨o, named, outside⟩) ?_⟩
  rintro ⟨b, y⟩ onB below
  obtain ⟨onB, wordB⟩ := mem_span_zip.1 onB
  refine Bool.eq_false_iff.2 fun outsideB => least b onB below ?_
  obtain ⟨o', named', outside'⟩ := outsideRange_iff.1 outsideB
  exact ⟨o', y, named', wordB, outside'⟩

theorem firstOutside_of_clear (clear : ∀ a ∈ f.span, ¬ ∃ o x,
      controlObject? a = some o ∧ f.data[a - f.address.toNat]? = some x ∧ o.inRange x = false) :
    (f.span.zip f.data).find? outsideRange = none := by
  refine List.find?_eq_none.2 ?_
  rintro ⟨b, y⟩ onB outsideB
  obtain ⟨onB, wordB⟩ := mem_span_zip.1 onB
  obtain ⟨o, named, outside⟩ := outsideRange_iff.1 outsideB
  exact clear b onB ⟨o, y, named, wordB, outside⟩

theorem readOnly_iff (a : Nat) : (∃ o, controlObject? a = some o ∧ o.writable = false) ↔
    ∃ o, controlObject? a = some o ∧ (!o.writable) = true := by simp only [Bool.not_eq_true']

theorem shadowBusy_iff (s : State) (a : Nat) : (a < 0x80 ∧ 0 < s.wb.inflight s.wb.active.other) ↔
    ∃ o, controlObject? a = some o ∧ s.shadowBusy o = true := by
  constructor
  · rintro ⟨low, busy⟩
    obtain ⟨o, named⟩ := mapped_of_lt low
    obtain ⟨w, j, rfl⟩ := (address_lt_iff_shadowWord o).1 ((address_of_controlObject? named).symm ▸ low)
    exact ⟨_, named, decide_eq_true busy⟩
  · rintro ⟨o, named, busy⟩
    cases o with
    | shadowWord w j =>
      have own := address_of_controlObject? named
      exact ⟨own ▸ (address_lt_iff_shadowWord _).2 ⟨w, j, rfl⟩, of_decide_eq_true busy⟩
    | _ => cases busy

theorem configBusy_iff (s : State) (a : Nat) : (∃ o g, controlObject? a = some o ∧ o.configOf? = some g ∧
      (s.seg g).state ≠ .offline ∧ (s.seg g).state ≠ .faulted) ↔
    ∃ o, controlObject? a = some o ∧ s.configBusy o = true := by
  have busy (g : SegId) : (!(s.seg g).state.idle) = true ↔ (s.seg g).state ≠ .offline ∧ (s.seg g).state ≠ .faulted := by
    rw [Bool.not_eq_true', ← Bool.not_eq_true, SegState.idle_iff, not_or]
  refine exists_congr fun o => ?_
  unfold configBusy
  cases o.configOf? with
  | none => simp
  | some g => simp [busy]

/-! ## The answers -/

theorem takeCwrite_malformed (free : s.tagInUse f.tag = false) (malformed : ¬ f.cwriteWellFormed = true) :
    s.takeCwrite f = (s.placeResponse (f.reply .malformed 0)).count (partCounter .framesMalformed) := by
  rw [takeCwrite, withFreeTag_free free, if_neg malformed]
  rfl

theorem takeCwrite_refused (free : s.tagInUse f.tag = false) (formed : f.cwriteWellFormed = true) {status : Status} {a : Nat}
    (refused : s.cwriteRefusal? f = some (status, a)) :
    s.takeCwrite f = s.placeResponse (f.reply status (toWord a)) := by
  rw [takeCwrite, withFreeTag_free free, if_pos formed, refused]
  rfl

theorem takeCwrite_ok (free : s.tagInUse f.tag = false) (formed : f.cwriteWellFormed = true)
    (accepted : s.cwriteRefusal? f = none) : s.takeCwrite f = (s.writeSpan f).placeResponse (f.reply .ok 0) := by
  rw [takeCwrite, withFreeTag_free free, if_pos formed, accepted]
  rfl

end State

/-! ## The row of an accepted CWRITE -/

theorem writable_address {o : ControlObject} (writable : o.writable = true) : o.address < 0x80 ∨
    (∃ g : SegId, 0x300 + 0x20 * g.val ≤ o.address ∧ o.address < 0x303 + 0x20 * g.val) ∨ o.address = 0x400 ∨
    o.address = 0x404 := by
  cases o with
  | shadowWord w j => exact .inl ((address_lt_iff_shadowWord _).2 ⟨w, j, rfl⟩)
  | sendWindow g | legTimeout g | faultThreshold g =>
    exact .inr (.inl ⟨g, by simp only [ControlObject.address]; omega, by simp only [ControlObject.address]; omega⟩)
  | maskSet => exact .inr (.inr (.inl rfl))
  | resendInterval => exact .inr (.inr (.inr rfl))
  | _ => cases writable

namespace RxFrame

theorem inSegmentConfig_iff {a n : Nat} :
    inSegmentConfig a n = true ↔ ∃ g : SegId, 0x300 + 0x20 * g.val ≤ a ∧ a + n ≤ 0x303 + 0x20 * g.val := by
  simp [inSegmentConfig, mem_allSegs]

/-- A span of writable words belongs to one of the four rows that write (log 3). -/
theorem cwriteRow_ne_cwrite {f : RxFrame} (formed : f.cwriteWellFormed = true)
    (writable : ∀ a ∈ f.span, ∃ o, controlObject? a = some o ∧ o.writable = true) : f.cwriteRow ≠ .cwrite := by
  obtain ⟨atLeastOne, -, -⟩ := f.cwriteWellFormed_iff.1 formed
  have place (a : Nat) (low : f.address.toNat ≤ a) (high : a < f.address.toNat + f.count) : a < 0x80 ∨
      (∃ g : SegId, 0x300 + 0x20 * g.val ≤ a ∧ a < 0x303 + 0x20 * g.val) ∨ a = 0x400 ∨ a = 0x404 := by
    obtain ⟨o, named, writable⟩ := writable a (mem_span.2 ⟨low, high⟩)
    exact address_of_controlObject? named ▸ writable_address writable
  have first := place f.address.toNat (Nat.le_refl _) (by omega)
  unfold cwriteRow
  rw [if_pos formed]
  dsimp only
  split
  · nofun
  · rename_i shadow
    split
    · nofun
    · rename_i config
      rw [inSegmentConfig_iff] at config
      rcases first with low | ⟨g, base, top⟩ | own | own
      · rcases place 0x80 (by omega) (by omega) with h | ⟨g', h, -⟩ | h | h <;> omega
      · have beyond : 0x303 + 0x20 * g.val < f.address.toNat + f.count := by
          refine Nat.lt_of_not_le fun within => config ⟨g, base, within⟩
        rcases place (0x303 + 0x20 * g.val) (by omega) beyond with h | ⟨g', h, h'⟩ | h | h <;> omega
      · by_cases one : f.count = 1
        · simp [own, one]
        · rcases place 0x401 (by omega) (by omega) with h | ⟨g', h, h'⟩ | h | h <;> omega
      · by_cases one : f.count = 1
        · simp [own, one]
        · rcases place 0x405 (by omega) (by omega) with h | ⟨g', h, h'⟩ | h | h <;> omega

theorem cwriteRow_of_row {f : RxFrame} (row : f.row = .cwrite) : f.cwriteRow = .cwrite := by
  have command : f.commandRow ≠ .cwrite := by
    unfold commandRow
    split <;> nofun
  unfold RxFrame.row at row
  split at row
  case h_7 => exact row
  case h_8 => exact absurd row command
  all_goals cases row

end RxFrame

/-- Settles O44: the tests in the order of R185, each with the lowest address that fails it. -/
theorem cwriteAnswers : Obligations.CwriteAnswers := by
  intro c row s f rest command takes free k formed unmapped readOnly draining busy outside answer clear
  have tagFree : k.tagInUse f.tag = false := tagInUse_false free
  have taken : exec c s = .next ((k.takeCwrite f).finish s) := by cases command <;> exact takes.exec_eq rfl
  have refusal {status : Status} {a : Nat} (wellFormed : formed) (refused : k.cwriteRefusal? f = some (status, a)) :
      exec c s = answer status a := by
    rw [taken, State.takeCwrite_refused tagFree (f.cwriteWellFormed_iff.2 wellFormed) refused]
  have allMapped (mapped : clear unmapped) : firstUnmapped? f.span = none := find?_span_of_clear isNone_controlObject?_iff mapped
  have allWritable (write : clear readOnly) : firstWhere? f.span (fun o => !o.writable) = none :=
    firstWhere?_of_clear State.readOnly_iff write
  have noneBusy (drained : clear draining) : firstWhere? f.span k.shadowBusy = none :=
    firstWhere?_of_clear k.shadowBusy_iff drained
  have noneRuns (idle : clear busy) : firstWhere? f.span k.configBusy = none := firstWhere?_of_clear k.configBusy_iff idle
  refine ⟨fun malformed => ?_, fun wellFormed => ⟨fun a lowest => ?_, fun a mapped lowest => ?_, fun a mapped write lowest => ?_,
    fun a mapped write drained lowest => ?_, fun a mapped write drained idle lowest => ?_, fun mapped write drained idle inside => ?_⟩⟩
  · rw [taken, State.takeCwrite_malformed tagFree fun wellFormed => malformed (f.cwriteWellFormed_iff.1 wellFormed)]
  · refine refusal wellFormed ?_
    simp only [State.cwriteRefusal?_eq, firstUnmapped?, find?_span_of_lowest isNone_controlObject?_iff lowest]
  · refine refusal wellFormed ?_
    simp only [State.cwriteRefusal?_eq, allMapped mapped, firstWhere?_of_lowest State.readOnly_iff lowest]
  · refine refusal wellFormed ?_
    simp only [State.cwriteRefusal?_eq, allMapped mapped, allWritable write, firstWhere?_of_lowest k.shadowBusy_iff lowest]
  · refine refusal wellFormed ?_
    simp only [State.cwriteRefusal?_eq, allMapped mapped, allWritable write, noneBusy drained,
      firstWhere?_of_lowest k.configBusy_iff lowest]
  · refine refusal wellFormed ?_
    obtain ⟨x, first⟩ := State.firstOutside_of_lowest wellFormed.2.2 lowest
    simp only [State.cwriteRefusal?_eq, allMapped mapped, allWritable write, noneBusy drained, noneRuns idle, first]
  · have accepted : k.cwriteRefusal? f = none := by
      simp only [State.cwriteRefusal?_eq, allMapped mapped, allWritable write, noneBusy drained, noneRuns idle,
        State.firstOutside_of_clear inside]
    refine ⟨?_, by rw [taken, State.takeCwrite_ok tagFree (f.cwriteWellFormed_iff.2 wellFormed) accepted]⟩
    rintro rfl
    cases command
    refine RxFrame.cwriteRow_ne_cwrite (f.cwriteWellFormed_iff.2 wellFormed) (fun a on => ?_) (RxFrame.cwriteRow_of_row takes.row)
    obtain ⟨o, named⟩ := Option.ne_none_iff_exists'.1 (mapped a on)
    exact ⟨o, named, Bool.not_eq_false _ |>.mp fun readOnly => write a on ⟨o, named, readOnly⟩⟩

end Sys2Proof.Machine
end

section

/-! The words of a window record (R178): what a written word reads back, and the record from its words. -/

namespace Sys2Proof.Machine

theorem flagWord_getLsbD (b : Bool) (i : Nat) : (flagWord b).getLsbD i = (b && decide (i = 0)) := by
  cases b <;> simp [flagWord, BitVec.getLsbD_one]

/-- A field taken out of a word and put back in its place. -/
theorem setWidth_extractLsb'_shiftLeft (x : Word) (k n : Nat) :
    (x.extractLsb' k n).setWidth 32 <<< k = x &&& (BitVec.ofNat 32 (2 ^ n - 1) <<< k) := by
  refine BitVec.eq_of_getLsbD_eq fun i bound => ?_
  by_cases low : i < k
  · simp [low]
  · have place : k + (i - k) = i := by omega
    simp only [BitVec.getLsbD_and, BitVec.getLsbD_shiftLeft, BitVec.getLsbD_setWidth, BitVec.getLsbD_extractLsb', BitVec.getLsbD_ofNat,
      Nat.testBit_two_pow_sub_one, place, bound, low, show i - k < 32 by omega, decide_true, decide_false, Bool.not_false,
      Bool.true_and]
    exact Bool.and_comm ..

theorem setWidth_extractLsb'_zero (x : Word) (n : Nat) : (x.extractLsb' 0 n).setWidth 32 = x &&& BitVec.ofNat 32 (2 ^ n - 1) := by
  simpa using setWidth_extractLsb'_shiftLeft x 0 n

theorem toWord_segOfBits (b : BitVec 2) : toWord (segOfBits b).val = b.setWidth 32 := (setWidth_eq_toWord b).symm

theorem toWord_seg (g : SegId) : toWord g.val = (BitVec.ofNat 2 g.val).setWidth 32 := by
  revert g
  decide

theorem segOfBits_ofNat (g : SegId) : segOfBits (BitVec.ofNat 2 g.val) = g := by
  revert g
  decide

theorem flagWord_shiftLeft (x : Word) (k : Nat) : flagWord (x.getLsbD k) <<< k = x &&& (1#32 <<< k) := by
  refine BitVec.eq_of_getLsbD_eq fun i bound => ?_
  simp only [BitVec.getLsbD_and, BitVec.getLsbD_shiftLeft, flagWord_getLsbD, BitVec.getLsbD_one]
  by_cases own : i = k
  · subst own
    simp only [bound, Nat.lt_irrefl, Nat.sub_self, decide_true, decide_false, Bool.not_false, Bool.and_true, Bool.true_and]
    simp
  · by_cases low : i < k
    · simp [low]
    · simp [low, show i - k ≠ 0 by omega]

theorem Access.code_ofCode (c : BitVec 2) : (Access.ofCode c).code = c := by
  revert c
  decide

theorem Access.ofCode_code (a : Access) : Access.ofCode a.code = a := by
  cases a <;> rfl

namespace WindowRecord
variable (w : WindowRecord) (x : Word)

/-! ## A written word reads back -/

theorem word_writeWord_zero : (w.writeWord 0 x).word 0 = x &&& fieldMask 0 := by
  have readMode (b : Bool) : ((if b then ReadMode.vote else .preferred) == .vote) = b := by cases b <;> rfl
  have policy (b : Bool) : ((if b then WritePolicy.degraded else .strict) == .degraded) = b := by cases b <;> rfl
  have boundary (b : Bool) : ((if b then Boundary.refuse else .wrap) == .refuse) = b := by cases b <;> rfl
  simp only [writeWord, word, readMode, policy, boundary, Access.code_ofCode, flagWord_shiftLeft, setWidth_extractLsb'_shiftLeft,
    setWidth_extractLsb'_zero, ← BitVec.and_or_distrib_left]
  rfl

theorem word_writeWord_two : (w.writeWord 2 x).word 2 = x &&& fieldMask 2 := by
  simp only [writeWord, word, setWidth_extractLsb'_shiftLeft, setWidth_extractLsb'_zero, ← BitVec.and_or_distrib_left]
  rfl

theorem word_writeWord_three : (w.writeWord 3 x).word 3 = x &&& fieldMask 3 := by
  have third (a b c d : SegId) : (#v[a, b, c, d] : Vector SegId 4)[3] = d := rfl
  have second (a b c d : SegId) : (#v[a, b, c, d] : Vector SegId 4)[2] = c := rfl
  have first (a b c d : SegId) : (#v[a, b, c, d] : Vector SegId 4)[1] = b := rfl
  have zeroth (a b c d : SegId) : (#v[a, b, c, d] : Vector SegId 4)[0] = a := rfl
  simp only [writeWord, word, zeroth, first, second, third, toWord_segOfBits, setWidth_extractLsb'_shiftLeft,
    setWidth_extractLsb'_zero, ← BitVec.and_or_distrib_left]
  rfl

theorem word_writeWord_one : (w.writeWord 1 x).word 1 = x &&& fieldMask 1 := by
  show x = x &&& BitVec.allOnes 32
  rw [BitVec.and_allOnes]

theorem word_writeWord_of_ne {i j : Fin 4} (other : i ≠ j) : (w.writeWord j x).word i = w.word i := by
  match i, j, other with
  | 0, 0, other | 1, 1, other | 2, 2, other | 3, 3, other => exact absurd rfl other
  | 0, 1, _ | 0, 2, _ | 0, 3, _ | 1, 0, _ | 1, 2, _ | 1, 3, _ | 2, 0, _ | 2, 1, _ | 2, 3, _ | 3, 0, _ | 3, 1, _ | 3, 2, _ => rfl

theorem word_writeWord (j i : Fin 4) : (w.writeWord j x).word i = if i = j then x &&& fieldMask j else w.word i := by
  split
  · rename_i own
    subst own
    match i with
    | 0 => exact w.word_writeWord_zero x
    | 1 => exact w.word_writeWord_one x
    | 2 => exact w.word_writeWord_two x
    | 3 => exact w.word_writeWord_three x
  · rename_i other
    exact w.word_writeWord_of_ne x other

/-! ## The record from its words -/

theorem flags_of_word_zero : (w.word 0).getLsbD 31 = w.enabled ∧ (w.word 0).getLsbD 27 = (w.readMode == .vote) ∧
    (w.word 0).getLsbD 26 = (w.policy == .degraded) ∧ (w.word 0).getLsbD 25 = (w.boundary == .refuse) := by
  simp [word, flagWord_getLsbD, -BitVec.getLsbD_eq_getElem]

theorem fields_of_word_zero : (w.word 0).extractLsb' 28 2 = w.access.code ∧ (w.word 0).extractLsb' 16 3 = w.retryLimit ∧
    (w.word 0).extractLsb' 8 5 = w.k ∧ (w.word 0).extractLsb' 0 6 = w.p := by
  refine ⟨?_, ?_, ?_, ?_⟩ <;> refine BitVec.eq_of_getLsbD_eq fun i bound => ?_ <;> interval_cases i <;>
    simp [word, flagWord_getLsbD, -BitVec.getLsbD_eq_getElem]

theorem fields_of_word_two : (w.word 2).extractLsb' 8 4 = w.writeSet ∧ (w.word 2).extractLsb' 0 8 = w.page := by
  constructor <;> refine BitVec.eq_of_getLsbD_eq fun i bound => ?_ <;> interval_cases i <;>
    simp [word, -BitVec.getLsbD_eq_getElem]

theorem fields_of_word_three : (w.word 3).extractLsb' 0 3 = w.readLength ∧
    (w.word 3).extractLsb' 8 2 = BitVec.ofNat 2 w.readList[0].val ∧ (w.word 3).extractLsb' 10 2 = BitVec.ofNat 2 w.readList[1].val ∧
    (w.word 3).extractLsb' 12 2 = BitVec.ofNat 2 w.readList[2].val ∧ (w.word 3).extractLsb' 14 2 = BitVec.ofNat 2 w.readList[3].val := by
  refine ⟨?_, ?_, ?_, ?_, ?_⟩ <;> refine BitVec.eq_of_getLsbD_eq fun i bound => ?_ <;> interval_cases i <;>
    simp [word, toWord_seg, -BitVec.getLsbD_eq_getElem]

theorem writeWord_zero_word (v : WindowRecord) : v.writeWord 0 (w.word 0) = { v with
    enabled := w.enabled, access := w.access, readMode := w.readMode, policy := w.policy, boundary := w.boundary
    retryLimit := w.retryLimit, k := w.k, p := w.p } := by
  obtain ⟨enabled, readMode, policy, boundary⟩ := w.flags_of_word_zero
  obtain ⟨access, retryLimit, k, p⟩ := w.fields_of_word_zero
  have voteOf (m : ReadMode) : (if m == .vote then .vote else .preferred) = m := by cases m <;> rfl
  have degradedOf (m : WritePolicy) : (if m == .degraded then .degraded else .strict) = m := by cases m <;> rfl
  have refuseOf (m : Boundary) : (if m == .refuse then .refuse else .wrap) = m := by cases m <;> rfl
  simp only [writeWord, enabled, readMode, policy, boundary, access, retryLimit, k, p, Access.ofCode_code, voteOf, degradedOf, refuseOf]

theorem writeWord_two_word (v : WindowRecord) : v.writeWord 2 (w.word 2) = { v with writeSet := w.writeSet, page := w.page } := by
  obtain ⟨writeSet, page⟩ := w.fields_of_word_two
  simp only [writeWord, writeSet, page]

theorem writeWord_three_word (v : WindowRecord) :
    v.writeWord 3 (w.word 3) = { v with readList := w.readList, readLength := w.readLength } := by
  obtain ⟨readLength, first, second, third, fourth⟩ := w.fields_of_word_three
  have list : (#v[w.readList[0], w.readList[1], w.readList[2], w.readList[3]] : Vector SegId 4) = w.readList := by
    refine Vector.ext fun i bound => ?_
    interval_cases i <;> rfl
  simp only [writeWord, readLength, first, second, third, fourth, segOfBits_ofNat, list]

/-- The four words of a record, written into any record, give that record (R178). -/
theorem writeWord_words (v : WindowRecord) :
    (((v.writeWord 0 (w.word 0)).writeWord 1 (w.word 1)).writeWord 2 (w.word 2)).writeWord 3 (w.word 3) = w := by
  rw [writeWord_zero_word, writeWord_two_word, writeWord_three_word]
  rfl

end WindowRecord

end Sys2Proof.Machine
end

section

/-! Frame formats (R166, R175 to R177): a composed frame is read back, and the words of the frames the part sends. -/

namespace Sys2Proof.Machine

/-! ## The frame check -/

theorem checked?_eq_some_iff {ws v : List Word} : checked? ws = some v ↔ ws = withCheck v := by
  constructor
  · intro passed
    unfold checked? at passed
    split at passed
    · rename_i c last
      split at passed
      · rename_i check
        cases passed
        rw [withCheck, check]
        exact (List.dropLast_append_getLast? c last).symm
      · cases passed
    · cases passed
  · rintro rfl
    simp [checked?, withCheck]

theorem RxFrame.ofWords?_eq_some_iff {ws : List Word} {f : RxFrame} : RxFrame.ofWords? ws = some f ↔ ws = f.words := by
  rw [words, ← checked?_eq_some_iff, ofWords?]
  cases checked? ws with
  | none => simp
  | some v => cases v with
    | nil => simp
    | cons h payload => cases f; simp

/-! ## Header words -/

theorem flagWord_eq_toWord (b : Bool) : flagWord b = toWord b.toNat := by
  cases b <;> rfl

theorem or_reverse (a b c d : Word) : a ||| b ||| c ||| d = ((d ||| c) ||| b) ||| a := by
  rw [BitVec.or_comm (a ||| b ||| c), BitVec.or_comm (a ||| b) c, BitVec.or_comm a b, BitVec.or_assoc, BitVec.or_assoc]

theorem RxFrame.headerWord_eq (kind : Byte) (t : Tag) {n length : Nat} (count : n < 32) (payload : length < 32) :
    RxFrame.headerWord kind t n length = toWord (0x1000000 * kind.toNat + 0x10000 * t.val + 0x100 * n + length) := by
  have order : RxFrame.headerWord kind t n length =
      ((toWord length ||| toWord n <<< 8) ||| toWord t.val <<< 16) ||| toWord kind.toNat <<< 24 := by
    rw [RxFrame.headerWord, setWidth_eq_toWord, Nat.mod_eq_of_lt count, Nat.mod_eq_of_lt payload]
    exact or_reverse ..
  rw [order, toWord_or_shiftLeft (by omega), toWord_or_shiftLeft (by omega), toWord_or_shiftLeft (by omega)]
  congr 1
  omega

theorem segHeader_eq (kind : Nat) (t : LegTag) {n : Nat} (count : n < 32) :
    segHeader kind t n = toWord (0x10000000 * kind + 0x1000000 * t.val + 0x10000 * n) := by
  have order : segHeader kind t n = ((toWord 0 ||| toWord n <<< 16) ||| toWord t.val <<< 24) ||| toWord kind <<< 28 := by
    rw [segHeader, Nat.mod_eq_of_lt count, show toWord 0 = 0#32 from rfl, ← or_reverse, BitVec.or_zero]
  rw [order, toWord_or_shiftLeft (by omega), toWord_or_shiftLeft (by omega), toWord_or_shiftLeft (by omega)]
  congr 1
  omega

theorem extractLsb'_toWord_toNat (m k n : Nat) (small : m < 2 ^ 32) : ((toWord m).extractLsb' k n).toNat = m / 2 ^ k % 2 ^ n := by
  rw [BitVec.extractLsb'_toNat, toWord, BitVec.toNat_ofNat, Nat.mod_eq_of_lt small, Nat.shiftRight_eq_div_pow]

/-- A request's header fields are read as they were composed (R175). -/
theorem RxFrame.ofRequest_fields (k : RequestKind) (t : Tag) {n : Nat} {payload : List Word} (count : n < 32)
    (length : payload.length < 32) :
    let f := RxFrame.ofRequest k t n payload
    f.kindCode = k.code ∧ f.tag = t ∧ f.count = n ∧ f.lengthField = payload.length := by
  intro f
  have header : f.header = toWord (0x1000000 * k.code.toNat + 0x10000 * t.val + 0x100 * n + payload.length) :=
    headerWord_eq k.code t count length
  have kind := k.code.isLt
  have small : 0x1000000 * k.code.toNat + 0x10000 * t.val + 0x100 * n + payload.length < 2 ^ 32 := by omega
  refine ⟨BitVec.eq_of_toNat_eq ?_, Fin.ext ?_, ?_, ?_⟩
  · rw [kindCode, header, extractLsb'_toWord_toNat _ _ _ small]
    omega
  · simp only [RxFrame.tag]
    rw [header, extractLsb'_toWord_toNat _ _ _ small]
    omega
  · rw [RxFrame.count, header, extractLsb'_toWord_toNat _ _ _ small]
    omega
  · rw [lengthField, header, extractLsb'_toWord_toNat _ _ _ small]
    omega

theorem RxFrame.ofRequest_structuralKind? (k : RequestKind) (t : Tag) {n : Nat} {payload : List Word} (count : n < 32)
    (length : payload.length < 32) (allowed : k.lengthAllowed payload.length = true) :
    (RxFrame.ofRequest k t n payload).structuralKind? = some k := by
  obtain ⟨kind, -, -, lengthField⟩ := ofRequest_fields k t count length
  rw [structuralKind?, kind, RequestKind.ofCode?_eq_some_iff.2 rfl, lengthField]
  simp [ofRequest, allowed]

/-! ## Upstream frames -/

theorem segHeader_fields (kind : Nat) (t : LegTag) {n : Nat} (upstream : kind < 16) (count : n < 32) :
    ((segHeader kind t n).extractLsb' 28 4).toNat = kind ∧ segHeaderTag (segHeader kind t n) = t ∧
      ((segHeader kind t n).extractLsb' 16 5).toNat = n := by
  have small : 0x10000000 * kind + 0x1000000 * t.val + 0x10000 * n < 2 ^ 32 := by omega
  rw [segHeader_eq kind t count]
  refine ⟨?_, Fin.ext ?_, ?_⟩
  · rw [extractLsb'_toWord_toNat _ _ _ small]
    omega
  · simp only [segHeaderTag]
    rw [extractLsb'_toWord_toNat _ _ _ small]
    omega
  · rw [extractLsb'_toWord_toNat _ _ _ small]
    omega

theorem setWidth_setWidth_byte (c : Byte) : (c.setWidth 32).setWidth 8 = c := by
  simp

theorem UpFrame.ofWords?_words (u : UpFrame) (short : ∀ t d, u = .legDone t d → d.length ≤ 16) :
    UpFrame.ofWords? u.words = some u := by
  cases u with
  | legDone t d =>
    have few := short t d rfl
    obtain ⟨kind, tag, count⟩ := segHeader_fields 8 t (n := d.length) (by decide) (by omega)
    simp only [words, ofWords?, checked?_eq_some_iff.2 rfl, kind, tag, count, if_true]
  | legRefused t c =>
    obtain ⟨kind, tag, count⟩ := segHeader_fields 9 t (n := 0) (by decide) (by decide)
    simp only [words, ofWords?, checked?_eq_some_iff.2 rfl, kind, tag, count, List.length_nil, if_true, setWidth_setWidth_byte]
  | probeReply t =>
    obtain ⟨kind, tag, count⟩ := segHeader_fields 10 t (n := 0) (by decide) (by decide)
    simp only [words, ofWords?, checked?_eq_some_iff.2 rfl, kind, tag, count, List.length_nil, if_true]
  | attnReport source =>
    obtain ⟨kind, -, count⟩ := segHeader_fields 11 0 (n := 0) (by decide) (by decide)
    simp only [words, ofWords?, checked?_eq_some_iff.2 rfl, kind, count, List.length_nil, if_true, setWidth_setWidth_byte]

/-! ## Frames the part sends -/

theorem Status.code_le (status : Status) : status.code ≤ 18 := by
  cases status <;> decide

theorem Response.firstWord_eq (r : Response) : r.firstWord = toWord (0x1000000 * r.kind.toNat + 0x10000 * r.status.code
    + 0x100 * r.applied.toNat + 0x10 * r.skipped.toNat + r.dissent.toNat) := by
  have status := r.status.code_le
  have applied := r.applied.isLt
  have skipped := r.skipped.isLt
  have dissent := r.dissent.toNat_lt
  have order : r.firstWord = (((toWord r.dissent.toNat ||| toWord r.skipped.toNat <<< 4) ||| toWord r.applied.toNat <<< 8) |||
      toWord r.status.code <<< 16) ||| toWord r.kind.toNat <<< 24 := by
    rw [Response.firstWord, setWidth_eq_toWord, setWidth_eq_toWord, setWidth_eq_toWord, flagWord_eq_toWord,
      BitVec.or_comm _ (toWord r.dissent.toNat), or_reverse]
    simp only [BitVec.or_assoc]
  rw [order, toWord_or_shiftLeft (by omega), toWord_or_shiftLeft (by omega), toWord_or_shiftLeft (by omega), toWord_or_shiftLeft (by omega)]
  congr 1
  omega

theorem TxFrame.words_response (r : Response) (short : r.data.length ≤ 16) :
    TxFrame.words (.response r) = withCheck (
      toWord (0x80000000 + 0x10000 * r.tag.val + 0x100 * r.data.length + (2 + r.data.length)) ::
      toWord (0x1000000 * r.kind.toNat + 0x10000 * r.status.code + 0x100 * r.applied.toNat + 0x10 * r.skipped.toNat
        + r.dissent.toNat) :: r.detail :: r.data) := by
  rw [words, RxFrame.headerWord_eq 0x80 r.tag (by omega) (by omega), r.firstWord_eq]
  rfl

theorem TxFrame.words_attention (l : LevelId) (q : Byte) (d : Word) :
    TxFrame.words (.attention l q d) = withCheck [0x81000002, toWord (0x10000 * q.toNat + l.val), d] := by
  have second : (q.setWidth 32 <<< 16) ||| toWord l.val = toWord (0x10000 * q.toNat + l.val) := by
    rw [BitVec.or_comm, setWidth_eq_toWord, toWord_or_shiftLeft (by omega), Nat.add_comm]
    rfl
  rw [words, second, RxFrame.headerWord_eq 0x81 0 (by decide) (by decide)]
  rfl

theorem DownFrame.words_legWrite (t : LegTag) (a : SegAddr) (d : List Word) (short : d.length ≤ 16) :
    DownFrame.words (.legWrite t a d)
      = withCheck (toWord (0x10000000 + 0x1000000 * t.val + 0x10000 * d.length) :: toWord a.toNat :: d) := by
  rw [words, segHeader_eq 1 t (by omega), setWidth_eq_toWord]

theorem DownFrame.words_legRead (t : LegTag) (a : SegAddr) (n : Nat) (short : n ≤ 16) :
    DownFrame.words (.legRead t a n)
      = withCheck [toWord (0x20000000 + 0x1000000 * t.val + 0x10000 * n), toWord a.toNat] := by
  rw [words, segHeader_eq 2 t (by omega), setWidth_eq_toWord]

theorem DownFrame.words_probe (t : LegTag) :
    DownFrame.words (.probe t) = withCheck [toWord (0x30000000 + 0x1000000 * t.val), 0] := by
  rw [words, segHeader_eq 3 t (by decide)]
  rfl

theorem DownFrame.words_attnAck (source : Byte) :
    DownFrame.words (.attnAck source) = withCheck [0x40000000, toWord source.toNat] := by
  rw [words, setWidth_eq_toWord, segHeader_eq 4 0 (by decide)]
  rfl

/-- Settles O55: each format read back from its words. -/
theorem formatsRoundTrip : Obligations.FormatsRoundTrip := by
  refine ⟨fun _ _ => RxFrame.ofWords?_eq_some_iff, fun k t n payload count length => ?_, UpFrame.ofWords?_words,
    fun v w => w.writeWord_words v, fun w j i x => w.word_writeWord x j i, fun _ => rfl, rfl, TxFrame.words_response,
    TxFrame.words_attention, DownFrame.words_legWrite, DownFrame.words_legRead, DownFrame.words_probe, DownFrame.words_attnAck⟩
  obtain ⟨kind, tag, countField, lengthField⟩ := RxFrame.ofRequest_fields k t count length
  exact ⟨kind, tag, countField, lengthField, RxFrame.ofRequest_structuralKind? k t count length⟩

end Sys2Proof.Machine
end

section

/-! What an accepted CWRITE writes, and what it leaves (R24, R135, R143, R150, R178, R186). -/

namespace Sys2Proof.Machine

/-- A written word as it reads back: the bits its fields name (R178). -/
def ControlObject.readBack (x : Word) : ControlObject → Word
  | .shadowWord _ j => x &&& WindowRecord.fieldMask j
  | .maskSet => x &&& 0xFF
  | _ => x

theorem levelsWhere_getLsbD_eq (x : Word) : (levelsWhere fun l => x.getLsbD l.val) = x &&& 0xFF := by
  refine BitVec.eq_of_getLsbD_eq fun i bound => ?_
  have mask : (0xFF : Word).getLsbD i = decide (i < 8) := by
    rw [show (0xFF : Word) = BitVec.ofNat 32 (2 ^ 8 - 1) from rfl, BitVec.getLsbD_ofNat, Nat.testBit_two_pow_sub_one]
    simp [bound]
  rw [BitVec.getLsbD_and, mask]
  by_cases level : i < 8
  · rw [show i = (⟨i, level⟩ : LevelId).val from rfl, levelsWhere_getLsbD]
    simp [level]
  · have small : (levelsWhere fun l => x.getLsbD l.val).toNat < 2 ^ i :=
      Nat.lt_of_lt_of_le (levelsWhere_lt _) (Nat.pow_le_pow_right (show 2 > 0 by decide) (show 8 ≤ i from Nat.le_of_not_lt level))
    rw [BitVec.getLsbD, Nat.testBit_lt_two_pow small]
    simp [level]

namespace WindowBanks
variable (b : WindowBanks) (w : WindowId) (j : Fin 4) (x : Word)

theorem writeShadow_eq :
    b.writeShadow w j x = { b with bankA := (b.writeShadow w j x).bankA, bankB := (b.writeShadow w j x).bankB } := by
  unfold writeShadow
  cases b.shadow <;> rfl

theorem record_setBank (which : Bank) (records : Vector WindowRecord 32) (v : WindowId) :
    (b.setBank which records).record which v = records[v] := by
  cases which <;> rfl

theorem record_writeShadow (v : WindowId) : (b.writeShadow w j x).record b.shadow v =
    if w = v then (b.record b.shadow v).writeWord j x else b.record b.shadow v := by
  rw [writeShadow, record_setBank, Fin.getElem_fin, Vector.getElem_set]
  by_cases own : w = v
  · subst own
    rw [if_pos rfl, if_pos rfl]
  · rw [if_neg own, if_neg fun same => own (Fin.ext same)]
    rfl

theorem record_writeShadow_active (v : WindowId) : (b.writeShadow w j x).record b.active v = b.record b.active v := by
  unfold writeShadow
  generalize (b.bank b.shadow).set w ((b.record b.shadow w).writeWord j x) = records
  obtain ⟨bankA, bankB, active, _, _, _⟩ := b
  cases active <;> rfl

end WindowBanks

namespace State

/-! ## One word written -/

/-- What writes of words that may be written leave unchanged. -/
structure WriteKeeps (s u : State) : Prop where
  wb : u.wb = { s.wb with bankA := u.wb.bankA, bankB := u.wb.bankB }
  active : ∀ w, u.wb.record s.wb.active w = s.wb.record s.wb.active w
  segs : ∀ g, u.seg g = { s.seg g with
    sendWindow := (u.seg g).sendWindow, legTimeout := (u.seg g).legTimeout, faultThreshold := (u.seg g).faultThreshold }
  levels : ∀ l, u.level l = { s.level l with masked := (u.level l).masked }
  au : u.au = { s.au with levels := u.au.levels, interval := u.au.interval }
  tp : u.tp = s.tp
  tt : u.tt = s.tt
  cb : u.cb = s.cb
  pins : u.pins = s.pins
  pending : u.pending = s.pending

theorem WriteKeeps.refl (s : State) : WriteKeeps s s :=
  ⟨rfl, fun _ => rfl, fun _ => rfl, fun _ => rfl, rfl, rfl, rfl, rfl, rfl, rfl⟩

theorem WriteKeeps.trans {s u v : State} (first : WriteKeeps s u) (second : WriteKeeps u v) : WriteKeeps s v where
  wb := second.wb.trans (congrArg (fun b : WindowBanks => { b with bankA := v.wb.bankA, bankB := v.wb.bankB }) first.wb)
  active w := by
    have active : u.wb.active = s.wb.active := by rw [first.wb]
    exact (active ▸ second.active w).trans (first.active w)
  segs g := (second.segs g).trans (congrArg (fun c : SegCtl => { c with
    sendWindow := (v.seg g).sendWindow, legTimeout := (v.seg g).legTimeout
    faultThreshold := (v.seg g).faultThreshold }) (first.segs g))
  levels l := (second.levels l).trans (congrArg (fun lv : Level => { lv with masked := (v.level l).masked }) (first.levels l))
  au := second.au.trans
    (congrArg (fun a : AttentionUnit => { a with levels := v.au.levels, interval := v.au.interval }) first.au)
  tp := second.tp.trans first.tp
  tt := second.tt.trans first.tt
  cb := second.cb.trans first.cb
  pins := second.pins.trans first.pins
  pending := second.pending.trans first.pending

variable (s : State) (x : Word) (p : ControlObject)

theorem seg_writeObject (g : SegId) : (s.writeObject x p).seg g = { s.seg g with
    sendWindow := if p = .sendWindow g then x.toNat else (s.seg g).sendWindow
    legTimeout := if p = .legTimeout g then x.toNat else (s.seg g).legTimeout
    faultThreshold := if p = .faultThreshold g then x.toNat else (s.seg g).faultThreshold } := by
  cases p with
  | sendWindow h | legTimeout h | faultThreshold h =>
    rw [writeObject, seg_setSeg]
    by_cases own : g = h
    · subst own
      simp
    · simp [own, Ne.symm own]
  | _ => simp only [reduceCtorEq, if_false]; rfl

theorem level_writeObject (l : LevelId) : (s.writeObject x p).level l =
    { s.level l with masked := if p = .maskSet then x.getLsbD l.val else (s.level l).masked } := by
  cases p with
  | maskSet => simp [writeObject, level]
  | _ => simp only [reduceCtorEq, if_false]; rfl

theorem interval_writeObject : (s.writeObject x p).au.interval = if p = .resendInterval then x.toNat else s.au.interval := by
  cases p <;> rfl

theorem word_writeObject (w : WindowId) (j : Fin 4) : ((s.writeObject x p).wb.record s.wb.shadow w).word j =
    if p = .shadowWord w j then x &&& WindowRecord.fieldMask j else (s.wb.record s.wb.shadow w).word j := by
  cases p with
  | shadowWord w' j' =>
    rw [writeObject, WindowBanks.record_writeShadow]
    by_cases own : w' = w
    · subst own
      rw [if_pos rfl, WindowRecord.word_writeWord]
      by_cases same : j = j'
      · subst same
        simp
      · simp [same, Ne.symm same]
    · simp [own]
  | _ => simp only [reduceCtorEq, if_false]; rfl

theorem writeObject_keeps : WriteKeeps s (s.writeObject x p) where
  wb := by
    cases p with
    | shadowWord w j => exact s.wb.writeShadow_eq w j x
    | _ => rfl
  active v := by
    cases p with
    | shadowWord w j => exact s.wb.record_writeShadow_active w j x v
    | _ => rfl
  segs g := by rw [seg_writeObject]
  levels l := by rw [level_writeObject]
  au := by cases p <;> rfl
  tp := by cases p <;> rfl
  tt := by cases p <;> rfl
  cb := by cases p <;> rfl
  pins := by cases p <;> rfl
  pending := by cases p <;> rfl

section
variable {s u : State} (keeps : WriteKeeps s u)
include keeps

theorem WriteKeeps.shadow : u.wb.shadow = s.wb.shadow := by rw [WindowBanks.shadow, keeps.wb]; rfl

/-- A word that may not be written shows what these writes leave unchanged. -/
theorem WriteKeeps.readObject {o : ControlObject} (readOnly : o.writable = false) : u.readObject o = s.readObject o := by
  have active : u.wb.active = s.wb.active := by rw [keeps.wb]
  have inflight (which : Bank) : u.wb.inflight which = s.wb.inflight which := by rw [keeps.wb]; cases which <;> rfl
  have latch (l : LevelId) : (u.level l).latch = (s.level l).latch := by rw [keeps.levels]
  have service (l : LevelId) : (u.level l).service = (s.level l).service := by rw [keeps.levels]
  have requested : u.requested = s.requested := funext fun l => congrArg Option.isSome (latch l)
  have inService : u.inService = s.inService := funext fun l => congrArg Option.isSome (service l)
  cases o with
  | shadowWord | sendWindow | legTimeout | faultThreshold | maskSet | resendInterval => cases readOnly
  | activeWord w j => simp only [State.readObject, active, keeps.active]
  | activeBank => simp only [State.readObject, active]
  | generation => simp only [State.readObject]; rw [keeps.wb]
  | shadowState => simp only [State.readObject, WindowBanks.draining, keeps.shadow, inflight]
  | inflight which => simp only [State.readObject, inflight]
  | segmentState g | queuedLegs g | sentLegs g | failures g | lastFailure g | attentionSlot g | attentionLength g =>
    simp only [State.readObject]
    rw [keeps.segs]
  | requestedSet => simp only [State.readObject, requested]
  | inServiceSet => simp only [State.readObject, State.inServiceSet, inService]
  | nextSequence => simp only [State.readObject]; rw [keeps.au]
  | levelDetail l => simp only [State.readObject, latch, service]
  | levelSequence l => simp only [State.readObject, service]
  | counter i | counterClear i => simp only [State.readObject, State.counter, keeps.cb]
  | saturatedLow | saturatedHigh => simp only [State.readObject, saturatedWord, keeps.cb]
  | vendorCode | partCode | revision | capacity => rfl
  | transit t j => simp only [State.readObject, State.entry, keeps.tt]

end

theorem readObject_writeObject {o : ControlObject} (writable : o.writable = true) :
    (s.writeObject x p).readObject o = if p = o then o.readBack x else s.readObject o := by
  have ofToNat (y : Word) : toWord y.toNat = y := BitVec.ofNat_toNat ..
  cases o with
  | shadowWord w j =>
    simp only [readObject, (s.writeObject_keeps x p).shadow, word_writeObject, ControlObject.readBack]
  | sendWindow g | legTimeout g | faultThreshold g =>
    simp only [readObject, seg_writeObject, ControlObject.readBack]
    split
    · exact ofToNat x
    · rfl
  | maskSet =>
    simp only [readObject, level_writeObject, ControlObject.readBack]
    split
    · exact levelsWhere_getLsbD_eq x
    · rfl
  | resendInterval =>
    simp only [readObject, interval_writeObject, ControlObject.readBack]
    split
    · exact ofToNat x
    · rfl
  | _ => cases writable

/-! ## A list of words written -/

theorem foldl_writeObject_keeps (ws : List (ControlObject × Word)) (s : State) :
    WriteKeeps s (ws.foldl (fun s ox => s.writeObject ox.2 ox.1) s) := by
  induction ws generalizing s with
  | nil => exact .refl s
  | cons ox ws ih => exact (s.writeObject_keeps ox.2 ox.1).trans (ih _)

theorem readObject_foldl_of_absent {ws : List (ControlObject × Word)} {o : ControlObject} (writable : o.writable = true)
    (absent : o ∉ ws.map Prod.fst) (s : State) :
    (ws.foldl (fun s ox => s.writeObject ox.2 ox.1) s).readObject o = s.readObject o := by
  induction ws generalizing s with
  | nil => rfl
  | cons ox ws ih =>
    simp only [List.map_cons, List.mem_cons, not_or] at absent
    obtain ⟨other, absent⟩ := absent
    rw [List.foldl_cons, ih absent, readObject_writeObject _ _ _ writable, if_neg (Ne.symm other)]

theorem readObject_foldl_of_mem {ws : List (ControlObject × Word)} (once : (ws.map Prod.fst).Nodup) {o : ControlObject} {x : Word}
    (writable : o.writable = true) (on : (o, x) ∈ ws) (s : State) :
    (ws.foldl (fun s ox => s.writeObject ox.2 ox.1) s).readObject o = o.readBack x := by
  induction ws generalizing s with
  | nil => simp at on
  | cons ox ws ih =>
    obtain ⟨fresh, once⟩ := List.nodup_cons.1 once
    rw [List.foldl_cons]
    rcases List.mem_cons.1 on with rfl | on
    · rw [readObject_foldl_of_absent writable fresh, readObject_writeObject _ _ _ writable, if_pos rfl]
    · exact ih once on _

end State

/-- Settles O45: the words of the span are distinct objects, and each write changes what its own object shows. -/
theorem cwriteWrites : Obligations.CwriteWrites := by
  intro s f enough writable t
  have keeps : State.WriteKeeps s t := State.foldl_writeObject_keeps ..
  have mapped : ∀ a ∈ f.span, controlObject? a ≠ none := fun a on none => by
    obtain ⟨o, named, -⟩ := writable a on
    cases none.symm.trans named
  have firsts : ((spanObjects f.span).zip f.data).map Prod.fst = spanObjects f.span := by
    refine List.map_fst_zip ?_
    rw [enough, ← f.length_span]
    exact List.length_filterMap_le ..
  refine ⟨fun i x o word named => ?_, fun o absent => ?_, keeps.wb, keeps.active, keeps.segs, keeps.levels, keeps.au, keeps.tp,
    keeps.tt, keeps.cb, keeps.pins, keeps.pending⟩
  · have bound : i < f.count := enough ▸ (List.getElem?_eq_some_iff.1 word).1
    have address : f.span[i]? = some (f.address.toNat + i) := RxFrame.getElem?_span.2 ⟨rfl, bound⟩
    have object : (spanObjects f.span)[i]? = some o := by rw [getElem?_spanObjects mapped, address]; exact named
    have on : (o, x) ∈ (spanObjects f.span).zip f.data :=
      List.mem_of_getElem? (List.getElem?_zip_eq_some.2 ⟨object, word⟩)
    obtain ⟨o', named', writable⟩ := writable _ (List.mem_of_getElem? address)
    cases named.symm.trans named'
    refine (State.readObject_foldl_of_mem (firsts.symm ▸ spanObjects_nodup f) writable on s).trans ?_
    cases o <;> rfl
  · cases writes : o.writable with
    | false => exact keeps.readObject writes
    | true =>
      refine State.readObject_foldl_of_absent writes ?_ s
      rw [firsts, mem_spanObjects]
      exact fun on => absent _ on (controlObject?_address o)

end Sys2Proof.Machine
end
